-- ==== Sys2Proof/Word.lean ====
section
/-! DEFINITION. The block's word types (R13, R21, R29, R55, R56): what the spec treats as bits. -/

namespace Sys2Proof

/-- One bus word and one storage cell, `WORD_BITS = 32` bits (R10, R21). -/
abbrev Word := BitVec 32

/-- A 16-bit register (R29, R30), tile index (R69) or palette index (R34). -/
abbrev Half := BitVec 16

/-- One byte lane of a word (R41); also one colour channel (R37). -/
abbrev Byte := BitVec 8

/-- The lane mask of a `WRITE`: bit `k` enables lane `k` (R41). -/
abbrev Lanes := BitVec 4

/-- The word offset of a `WRITE` within its component (R56). -/
abbrev Offset := BitVec 20

/-- One 64-bit operation word (R55). -/
abbrev OpWord := BitVec 64

/-- A pixel of the output bitmap: three 8-bit channels (R35, R37). -/
structure Rgb where
  r : Byte
  g : Byte
  b : Byte
  deriving DecidableEq, Repr, Inhabited

end Sys2Proof
end

