-- ==== Sys2Proof/Syntax.lean ====
section
/-! DEFINITION. The operations of the block: one constructor for each row of spec/opcode_table.json (R60), in the table's order.
`off`, `data` and `lanes` are the `OFF`, `DATA` and `LANES` fields of a `WRITE` word (R56). -/

namespace Sys2Proof

/-- An operation word, decoded (R55 to R62). Bits that the spec says are ignored (R55) are no operand (log 13). -/
inductive Instr where
  /-- `WR_TXRAM`, R70 -/
  | wrTxram (off : Offset) (data : Word) (lanes : Lanes)
  /-- `WR_BGRAM`, R71 -/
  | wrBgram (off : Offset) (data : Word) (lanes : Lanes)
  /-- `WR_BGALTRAM`, R72 -/
  | wrBgaltram (off : Offset) (data : Word) (lanes : Lanes)
  /-- `WR_ROZRAM`, R73 -/
  | wrRozram (off : Offset) (data : Word) (lanes : Lanes)
  /-- `WR_LAYER_TX_SCROLLX`, R75 -/
  | wrLayerTxScrollx (data : Word) (lanes : Lanes)
  /-- `WR_LAYER_TX_SCROLLY`, R76 -/
  | wrLayerTxScrolly (data : Word) (lanes : Lanes)
  /-- `WR_LAYER_BG_SCROLLX`, R77 -/
  | wrLayerBgScrollx (data : Word) (lanes : Lanes)
  /-- `WR_LAYER_BG_SCROLLY`, R78 -/
  | wrLayerBgScrolly (data : Word) (lanes : Lanes)
  /-- `WR_LAYER_BGALT_SCROLLX`, R79 -/
  | wrLayerBgaltScrollx (data : Word) (lanes : Lanes)
  /-- `WR_LAYER_BGALT_SCROLLY`, R80 -/
  | wrLayerBgaltScrolly (data : Word) (lanes : Lanes)
  /-- `WR_LAYER_BG_LAYOUT`, R81 -/
  | wrLayerBgLayout (data : Word) (lanes : Lanes)
  /-- `WR_LAYER_UNKNOWN`, R82 -/
  | wrLayerUnknown (off : Offset) (data : Word) (lanes : Lanes)
  /-- `WR_LINERAM`, R116 -/
  | wrLineram (off : Offset) (data : Word) (lanes : Lanes)
  /-- `WR_ROZCTRL_STARTX_LO`, R97 -/
  | wrRozctrlStartxLo (data : Word) (lanes : Lanes)
  /-- `WR_ROZCTRL_STARTX_HI`, R98 -/
  | wrRozctrlStartxHi (data : Word) (lanes : Lanes)
  /-- `WR_ROZCTRL_STARTY_LO`, R99 -/
  | wrRozctrlStartyLo (data : Word) (lanes : Lanes)
  /-- `WR_ROZCTRL_STARTY_HI`, R100 -/
  | wrRozctrlStartyHi (data : Word) (lanes : Lanes)
  /-- `WR_ROZCTRL_INCXX_LO`, R101 -/
  | wrRozctrlIncxxLo (data : Word) (lanes : Lanes)
  /-- `WR_ROZCTRL_INCXX_HI`, R102 -/
  | wrRozctrlIncxxHi (data : Word) (lanes : Lanes)
  /-- `WR_ROZCTRL_INCXY_LO`, R103 -/
  | wrRozctrlIncxyLo (data : Word) (lanes : Lanes)
  /-- `WR_ROZCTRL_INCXY_HI`, R104 -/
  | wrRozctrlIncxyHi (data : Word) (lanes : Lanes)
  /-- `WR_ROZCTRL_INCYY_LO`, R105 -/
  | wrRozctrlIncyyLo (data : Word) (lanes : Lanes)
  /-- `WR_ROZCTRL_INCYY_HI`, R106 -/
  | wrRozctrlIncyyHi (data : Word) (lanes : Lanes)
  /-- `WR_ROZCTRL_INCYX_LO`, R107 -/
  | wrRozctrlIncyxLo (data : Word) (lanes : Lanes)
  /-- `WR_ROZCTRL_INCYX_HI`, R108 -/
  | wrRozctrlIncyxHi (data : Word) (lanes : Lanes)
  /-- `WR_ROZCTRL_OFFX`, R109 -/
  | wrRozctrlOffx (data : Word) (lanes : Lanes)
  /-- `WR_ROZCTRL_OFFY`, R110 -/
  | wrRozctrlOffy (data : Word) (lanes : Lanes)
  /-- `WR_ROZCTRL_OFFSELX`, R111 -/
  | wrRozctrlOffselx (data : Word) (lanes : Lanes)
  /-- `WR_ROZCTRL_OFFSELY`, R112 -/
  | wrRozctrlOffsely (data : Word) (lanes : Lanes)
  /-- `WR_ROZCTRL_MODE`, R113 -/
  | wrRozctrlMode (data : Word) (lanes : Lanes)
  /-- `WR_ROZCTRL_SPARE`, R114: offset `16 + k` -/
  | wrRozctrlSpare (k : BitVec 4) (data : Word) (lanes : Lanes)
  /-- `WR_ROZCTRL_UNKNOWN`, R115 -/
  | wrRozctrlUnknown (off : Offset) (data : Word) (lanes : Lanes)
  /-- `WR_SPRRAM`, R117 -/
  | wrSprram (off : Offset) (data : Word) (lanes : Lanes)
  /-- `VBLANK`, R118 -/
  | vblank
  /-- `WR_CRTC_CTRL`, R133 -/
  | wrCrtcCtrl (data : Word) (lanes : Lanes)
  /-- `WR_CRTC_HBLANK`, R134 -/
  | wrCrtcHblank (data : Word) (lanes : Lanes)
  /-- `WR_CRTC_HDISP`, R135 -/
  | wrCrtcHdisp (data : Word) (lanes : Lanes)
  /-- `WR_CRTC_VBLANK`, R136 -/
  | wrCrtcVblank (data : Word) (lanes : Lanes)
  /-- `WR_CRTC_VDISP`, R137 -/
  | wrCrtcVdisp (data : Word) (lanes : Lanes)
  /-- `WR_CRTC_PORCH_BACK`, R138 -/
  | wrCrtcPorchBack (data : Word) (lanes : Lanes)
  /-- `WR_CRTC_PORCH_FRONT`, R139 -/
  | wrCrtcPorchFront (data : Word) (lanes : Lanes)
  /-- `WR_CRTC_UNKNOWN`, R140 -/
  | wrCrtcUnknown (off : Offset) (data : Word) (lanes : Lanes)
  /-- `WR_PRIRAM`, R142 -/
  | wrPriram (off : Offset) (data : Word) (lanes : Lanes)
  /-- `RENDER`, R143 -/
  | render (minx maxx miny maxy : BitVec 12)
  /-- `WR_PALRAM`, R160 -/
  | wrPalram (off : Offset) (data : Word) (lanes : Lanes)
  /-- `WR_BRIGHT_B0R0`, R161 -/
  | wrBrightB0r0 (data : Word) (lanes : Lanes)
  /-- `WR_BRIGHT_B0R1`, R162 -/
  | wrBrightB0r1 (data : Word) (lanes : Lanes)
  /-- `WR_BRIGHT_B1R0`, R163 -/
  | wrBrightB1r0 (data : Word) (lanes : Lanes)
  /-- `WR_BRIGHT_B1R1`, R164 -/
  | wrBrightB1r1 (data : Word) (lanes : Lanes)
  /-- `WR_BRIGHT_UNKNOWN`, R165 -/
  | wrBrightUnknown (off : Offset) (data : Word) (lanes : Lanes)
  /-- `RESERVED_OPC`, R176: `OPC = 0`, with bits [59:0] -/
  | reservedOpc0 (rest : BitVec 60)
  /-- `RESERVED_OPC`, R176: `OPC` in 4..7, with bits [61:0] -/
  | reservedOpc4to7 (rest : BitVec 62)
  /-- `RESERVED_OPC`, R176: `OPC` in 8..15, with bits [62:0] -/
  | reservedOpc8to15 (rest : BitVec 63)
  /-- `RESERVED_COMP`, R176: `OPC = 1`, `COMP` in 12..15, with bits [57:0] -/
  | reservedComp (rest : BitVec 58)
  deriving DecidableEq, Repr

end Sys2Proof
end

