-- ==== Sys2Proof/WellFormed.lean ====
section
/-! DEFINITION. Well-formed operations: the offsets of the rows that cover a range and leave some of it to other rows (R60, R61).
Every other field of an operation may have any value of its width. -/

namespace Sys2Proof

/-- An operation whose offset its row covers: an unknown offset is one that no named row takes (R177), and the spare row takes
no offset 23, which is `MODE` (R61, R114). -/
def Instr.wf : Instr → Bool
  | .wrLayerUnknown off _ _ => decide (7 ≤ off.toNat)
  | .wrRozctrlUnknown off _ _ => decide (32 ≤ off.toNat)
  | .wrCrtcUnknown off _ _ => decide (7 ≤ off.toNat)
  | .wrBrightUnknown off _ _ => decide (4 ≤ off.toNat)
  | .wrRozctrlSpare k _ _ => decide (k ≠ 7)
  | .wrTxram _ _ _ => true
  | .wrBgram _ _ _ => true
  | .wrBgaltram _ _ _ => true
  | .wrRozram _ _ _ => true
  | .wrLayerTxScrollx _ _ => true
  | .wrLayerTxScrolly _ _ => true
  | .wrLayerBgScrollx _ _ => true
  | .wrLayerBgScrolly _ _ => true
  | .wrLayerBgaltScrollx _ _ => true
  | .wrLayerBgaltScrolly _ _ => true
  | .wrLayerBgLayout _ _ => true
  | .wrLineram _ _ _ => true
  | .wrRozctrlStartxLo _ _ => true
  | .wrRozctrlStartxHi _ _ => true
  | .wrRozctrlStartyLo _ _ => true
  | .wrRozctrlStartyHi _ _ => true
  | .wrRozctrlIncxxLo _ _ => true
  | .wrRozctrlIncxxHi _ _ => true
  | .wrRozctrlIncxyLo _ _ => true
  | .wrRozctrlIncxyHi _ _ => true
  | .wrRozctrlIncyyLo _ _ => true
  | .wrRozctrlIncyyHi _ _ => true
  | .wrRozctrlIncyxLo _ _ => true
  | .wrRozctrlIncyxHi _ _ => true
  | .wrRozctrlOffx _ _ => true
  | .wrRozctrlOffy _ _ => true
  | .wrRozctrlOffselx _ _ => true
  | .wrRozctrlOffsely _ _ => true
  | .wrRozctrlMode _ _ => true
  | .wrSprram _ _ _ => true
  | .vblank => true
  | .wrCrtcCtrl _ _ => true
  | .wrCrtcHblank _ _ => true
  | .wrCrtcHdisp _ _ => true
  | .wrCrtcVblank _ _ => true
  | .wrCrtcVdisp _ _ => true
  | .wrCrtcPorchBack _ _ => true
  | .wrCrtcPorchFront _ _ => true
  | .wrPriram _ _ _ => true
  | .render _ _ _ _ => true
  | .wrPalram _ _ _ => true
  | .wrBrightB0r0 _ _ => true
  | .wrBrightB0r1 _ _ => true
  | .wrBrightB1r0 _ _ => true
  | .wrBrightB1r1 _ _ => true
  | .reservedOpc0 _ => true
  | .reservedOpc4to7 _ => true
  | .reservedOpc8to15 _ => true
  | .reservedComp _ => true

end Sys2Proof
end

