-- ==== Sys2Proof/Decode.lean ====
section
/-! DEFINITION. The operation encoding (R55 to R63): the decoder, total on all 2^64 words, the encoder written from the same
tables, and the rows of spec/opcode_table.json with the selection rule of R61. The decoder refuses no word: a reserved word is
an operation of its own (`RESERVED_OPC`, `RESERVED_COMP`). -/

namespace Sys2Proof

/-- `OPC = w[63:60]` (R55). -/
def fieldOpc (w : OpWord) : BitVec 4 := w.extractLsb' 60 4

/-- `COMP = w[59:56]` (R55). -/
def fieldComp (w : OpWord) : BitVec 4 := w.extractLsb' 56 4

/-- `LANES = w[55:52]` (R55). -/
def fieldLanes (w : OpWord) : Lanes := w.extractLsb' 52 4

/-- `OFF = w[51:32]` (R55). -/
def fieldOff (w : OpWord) : Offset := w.extractLsb' 32 20

/-- `DATA = w[31:0]` (R55). -/
def fieldData (w : OpWord) : Word := w.extractLsb' 0 32

/-- A write to `ROZCTRL`, `COMP = 8`: the named offsets, then the spare row `OFF[19:4] = 1`, then the unknown row (R60, R61). -/
def decodeRozctrl (off : Offset) (data : Word) (lanes : Lanes) : Instr :=
  if off = 0 then .wrRozctrlStartxLo data lanes
  else if off = 1 then .wrRozctrlStartxHi data lanes
  else if off = 2 then .wrRozctrlStartyLo data lanes
  else if off = 3 then .wrRozctrlStartyHi data lanes
  else if off = 4 then .wrRozctrlIncxxLo data lanes
  else if off = 5 then .wrRozctrlIncxxHi data lanes
  else if off = 6 then .wrRozctrlIncxyLo data lanes
  else if off = 7 then .wrRozctrlIncxyHi data lanes
  else if off = 8 then .wrRozctrlIncyyLo data lanes
  else if off = 9 then .wrRozctrlIncyyHi data lanes
  else if off = 10 then .wrRozctrlIncyxLo data lanes
  else if off = 11 then .wrRozctrlIncyxHi data lanes
  else if off = 12 then .wrRozctrlOffx data lanes
  else if off = 13 then .wrRozctrlOffy data lanes
  else if off = 14 then .wrRozctrlOffselx data lanes
  else if off = 15 then .wrRozctrlOffsely data lanes
  else if off = 23 then .wrRozctrlMode data lanes
  else if off.extractLsb' 4 16 = 1 then .wrRozctrlSpare (off.extractLsb' 0 4) data lanes
  else .wrRozctrlUnknown off data lanes

/-- A write to the CRTC, `COMP = 9` (R60). -/
def decodeCrtc (off : Offset) (data : Word) (lanes : Lanes) : Instr :=
  if off = 0 then .wrCrtcCtrl data lanes
  else if off = 1 then .wrCrtcHblank data lanes
  else if off = 2 then .wrCrtcHdisp data lanes
  else if off = 3 then .wrCrtcVblank data lanes
  else if off = 4 then .wrCrtcVdisp data lanes
  else if off = 5 then .wrCrtcPorchBack data lanes
  else if off = 6 then .wrCrtcPorchFront data lanes
  else .wrCrtcUnknown off data lanes

/-- A write to the brightness registers, `COMP = 10` (R60). -/
def decodeBright (off : Offset) (data : Word) (lanes : Lanes) : Instr :=
  if off = 0 then .wrBrightB0r0 data lanes
  else if off = 1 then .wrBrightB0r1 data lanes
  else if off = 2 then .wrBrightB1r0 data lanes
  else if off = 3 then .wrBrightB1r1 data lanes
  else .wrBrightUnknown off data lanes

/-- A write to the layer control registers, `COMP = 11` (R60). -/
def decodeLayer (off : Offset) (data : Word) (lanes : Lanes) : Instr :=
  if off = 0 then .wrLayerTxScrollx data lanes
  else if off = 1 then .wrLayerTxScrolly data lanes
  else if off = 2 then .wrLayerBgScrollx data lanes
  else if off = 3 then .wrLayerBgScrolly data lanes
  else if off = 4 then .wrLayerBgaltScrollx data lanes
  else if off = 5 then .wrLayerBgaltScrolly data lanes
  else if off = 6 then .wrLayerBgLayout data lanes
  else .wrLayerUnknown off data lanes

/-- A `WRITE` word, by its component (R57, R60). -/
def decodeWrite (w : OpWord) : Instr :=
  let comp := fieldComp w
  let off := fieldOff w
  let data := fieldData w
  let lanes := fieldLanes w
  if comp = 0 then .wrTxram off data lanes
  else if comp = 1 then .wrBgram off data lanes
  else if comp = 2 then .wrBgaltram off data lanes
  else if comp = 3 then .wrRozram off data lanes
  else if comp = 4 then .wrLineram off data lanes
  else if comp = 5 then .wrSprram off data lanes
  else if comp = 6 then .wrPalram off data lanes
  else if comp = 7 then .wrPriram off data lanes
  else if comp = 8 then decodeRozctrl off data lanes
  else if comp = 9 then decodeCrtc off data lanes
  else if comp = 10 then decodeBright off data lanes
  else if comp = 11 then decodeLayer off data lanes
  else .reservedComp (w.extractLsb' 0 58)

/-- The operation a word is (R55, R60, R61): total on all words. -/
def decode (w : OpWord) : Instr :=
  let opc := fieldOpc w
  if opc = 1 then decodeWrite w
  else if opc = 2 then .vblank
  else if opc = 3 then .render (w.extractLsb' 36 12) (w.extractLsb' 24 12) (w.extractLsb' 12 12) (w.extractLsb' 0 12)
  else if opc = 0 then .reservedOpc0 (w.extractLsb' 0 60)
  else if opc.extractLsb' 3 1 = 0 then .reservedOpc4to7 (w.extractLsb' 0 62)
  else .reservedOpc8to15 (w.extractLsb' 0 63)

/-- A `WRITE` word from its fields (R55, R56). -/
def packWrite (comp : BitVec 4) (lanes : Lanes) (off : Offset) (data : Word) : OpWord :=
  1#4 ++ comp ++ lanes ++ off ++ data

/-- The word of an operation, the bits the spec ignores written as 0 (R55, R60; log 13). -/
def encode : Instr → OpWord
  | .wrTxram off data lanes => packWrite 0 lanes off data
  | .wrBgram off data lanes => packWrite 1 lanes off data
  | .wrBgaltram off data lanes => packWrite 2 lanes off data
  | .wrRozram off data lanes => packWrite 3 lanes off data
  | .wrLayerTxScrollx data lanes => packWrite 11 lanes 0 data
  | .wrLayerTxScrolly data lanes => packWrite 11 lanes 1 data
  | .wrLayerBgScrollx data lanes => packWrite 11 lanes 2 data
  | .wrLayerBgScrolly data lanes => packWrite 11 lanes 3 data
  | .wrLayerBgaltScrollx data lanes => packWrite 11 lanes 4 data
  | .wrLayerBgaltScrolly data lanes => packWrite 11 lanes 5 data
  | .wrLayerBgLayout data lanes => packWrite 11 lanes 6 data
  | .wrLayerUnknown off data lanes => packWrite 11 lanes off data
  | .wrLineram off data lanes => packWrite 4 lanes off data
  | .wrRozctrlStartxLo data lanes => packWrite 8 lanes 0 data
  | .wrRozctrlStartxHi data lanes => packWrite 8 lanes 1 data
  | .wrRozctrlStartyLo data lanes => packWrite 8 lanes 2 data
  | .wrRozctrlStartyHi data lanes => packWrite 8 lanes 3 data
  | .wrRozctrlIncxxLo data lanes => packWrite 8 lanes 4 data
  | .wrRozctrlIncxxHi data lanes => packWrite 8 lanes 5 data
  | .wrRozctrlIncxyLo data lanes => packWrite 8 lanes 6 data
  | .wrRozctrlIncxyHi data lanes => packWrite 8 lanes 7 data
  | .wrRozctrlIncyyLo data lanes => packWrite 8 lanes 8 data
  | .wrRozctrlIncyyHi data lanes => packWrite 8 lanes 9 data
  | .wrRozctrlIncyxLo data lanes => packWrite 8 lanes 10 data
  | .wrRozctrlIncyxHi data lanes => packWrite 8 lanes 11 data
  | .wrRozctrlOffx data lanes => packWrite 8 lanes 12 data
  | .wrRozctrlOffy data lanes => packWrite 8 lanes 13 data
  | .wrRozctrlOffselx data lanes => packWrite 8 lanes 14 data
  | .wrRozctrlOffsely data lanes => packWrite 8 lanes 15 data
  | .wrRozctrlMode data lanes => packWrite 8 lanes 23 data
  | .wrRozctrlSpare k data lanes => packWrite 8 lanes (1#16 ++ k) data
  | .wrRozctrlUnknown off data lanes => packWrite 8 lanes off data
  | .wrSprram off data lanes => packWrite 5 lanes off data
  | .vblank => 2#4 ++ 0#60
  | .wrCrtcCtrl data lanes => packWrite 9 lanes 0 data
  | .wrCrtcHblank data lanes => packWrite 9 lanes 1 data
  | .wrCrtcHdisp data lanes => packWrite 9 lanes 2 data
  | .wrCrtcVblank data lanes => packWrite 9 lanes 3 data
  | .wrCrtcVdisp data lanes => packWrite 9 lanes 4 data
  | .wrCrtcPorchBack data lanes => packWrite 9 lanes 5 data
  | .wrCrtcPorchFront data lanes => packWrite 9 lanes 6 data
  | .wrCrtcUnknown off data lanes => packWrite 9 lanes off data
  | .wrPriram off data lanes => packWrite 7 lanes off data
  | .render minx maxx miny maxy => 3#4 ++ 0#12 ++ minx ++ maxx ++ miny ++ maxy
  | .wrPalram off data lanes => packWrite 6 lanes off data
  | .wrBrightB0r0 data lanes => packWrite 10 lanes 0 data
  | .wrBrightB0r1 data lanes => packWrite 10 lanes 1 data
  | .wrBrightB1r0 data lanes => packWrite 10 lanes 2 data
  | .wrBrightB1r1 data lanes => packWrite 10 lanes 3 data
  | .wrBrightUnknown off data lanes => packWrite 10 lanes off data
  | .reservedOpc0 rest => 0#4 ++ rest
  | .reservedOpc4to7 rest => 1#2 ++ rest
  | .reservedOpc8to15 rest => 1#1 ++ rest
  | .reservedComp rest => 7#6 ++ rest

/-- A word with the bits that the spec ignores cleared: `[59:0]` of a `VBLANK` word and `[59:48]` of a `RENDER` word (R55). -/
def clearIgnored (w : OpWord) : OpWord :=
  if fieldOpc w = 2 then w &&& 0xF000000000000000
  else if fieldOpc w = 3 then w &&& 0xF000FFFFFFFFFFFF
  else w

/-- A row of spec/opcode_table.json: a word `w` matches it when `w &&& mask = bits` (R61). -/
structure TableRow where
  mnemonic : String
  bits : OpWord
  mask : OpWord
  deriving DecidableEq, Repr

/-- Whether a word matches a row (R61). -/
def TableRow.hits (r : TableRow) (w : OpWord) : Bool := (w &&& r.mask) == r.bits

/-- The number of set bits of a mask (R61). -/
def TableRow.weight (r : TableRow) : Nat := (List.range 64).countP fun i => r.mask.getLsbD i

/-- The rows of 40_tilemap.md. -/
def tableTilemap : List TableRow :=
  [ ⟨"WR_TXRAM", 0x1000000000000000, 0xFF00000000000000⟩,
    ⟨"WR_BGRAM", 0x1100000000000000, 0xFF00000000000000⟩,
    ⟨"WR_BGALTRAM", 0x1200000000000000, 0xFF00000000000000⟩,
    ⟨"WR_ROZRAM", 0x1300000000000000, 0xFF00000000000000⟩,
    ⟨"WR_LAYER_TX_SCROLLX", 0x1B00000000000000, 0xFF0FFFFF00000000⟩,
    ⟨"WR_LAYER_TX_SCROLLY", 0x1B00000100000000, 0xFF0FFFFF00000000⟩,
    ⟨"WR_LAYER_BG_SCROLLX", 0x1B00000200000000, 0xFF0FFFFF00000000⟩,
    ⟨"WR_LAYER_BG_SCROLLY", 0x1B00000300000000, 0xFF0FFFFF00000000⟩,
    ⟨"WR_LAYER_BGALT_SCROLLX", 0x1B00000400000000, 0xFF0FFFFF00000000⟩,
    ⟨"WR_LAYER_BGALT_SCROLLY", 0x1B00000500000000, 0xFF0FFFFF00000000⟩,
    ⟨"WR_LAYER_BG_LAYOUT", 0x1B00000600000000, 0xFF0FFFFF00000000⟩,
    ⟨"WR_LAYER_UNKNOWN", 0x1B00000000000000, 0xFF00000000000000⟩ ]

/-- The rows of 41_roz.md. -/
def tableRoz : List TableRow :=
  [ ⟨"WR_LINERAM", 0x1400000000000000, 0xFF00000000000000⟩,
    ⟨"WR_ROZCTRL_STARTX_LO", 0x1800000000000000, 0xFF0FFFFF00000000⟩,
    ⟨"WR_ROZCTRL_STARTX_HI", 0x1800000100000000, 0xFF0FFFFF00000000⟩,
    ⟨"WR_ROZCTRL_STARTY_LO", 0x1800000200000000, 0xFF0FFFFF00000000⟩,
    ⟨"WR_ROZCTRL_STARTY_HI", 0x1800000300000000, 0xFF0FFFFF00000000⟩,
    ⟨"WR_ROZCTRL_INCXX_LO", 0x1800000400000000, 0xFF0FFFFF00000000⟩,
    ⟨"WR_ROZCTRL_INCXX_HI", 0x1800000500000000, 0xFF0FFFFF00000000⟩,
    ⟨"WR_ROZCTRL_INCXY_LO", 0x1800000600000000, 0xFF0FFFFF00000000⟩,
    ⟨"WR_ROZCTRL_INCXY_HI", 0x1800000700000000, 0xFF0FFFFF00000000⟩,
    ⟨"WR_ROZCTRL_INCYY_LO", 0x1800000800000000, 0xFF0FFFFF00000000⟩,
    ⟨"WR_ROZCTRL_INCYY_HI", 0x1800000900000000, 0xFF0FFFFF00000000⟩,
    ⟨"WR_ROZCTRL_INCYX_LO", 0x1800000A00000000, 0xFF0FFFFF00000000⟩,
    ⟨"WR_ROZCTRL_INCYX_HI", 0x1800000B00000000, 0xFF0FFFFF00000000⟩,
    ⟨"WR_ROZCTRL_OFFX", 0x1800000C00000000, 0xFF0FFFFF00000000⟩,
    ⟨"WR_ROZCTRL_OFFY", 0x1800000D00000000, 0xFF0FFFFF00000000⟩,
    ⟨"WR_ROZCTRL_OFFSELX", 0x1800000E00000000, 0xFF0FFFFF00000000⟩,
    ⟨"WR_ROZCTRL_OFFSELY", 0x1800000F00000000, 0xFF0FFFFF00000000⟩,
    ⟨"WR_ROZCTRL_MODE", 0x1800001700000000, 0xFF0FFFFF00000000⟩,
    ⟨"WR_ROZCTRL_SPARE", 0x1800001000000000, 0xFF0FFFF000000000⟩,
    ⟨"WR_ROZCTRL_UNKNOWN", 0x1800000000000000, 0xFF00000000000000⟩ ]

/-- The rows of 42_sprites.md, 43_crtc.md, 44_mixer.md, 45_palette.md and 60_exceptions.md. -/
def tableOther : List TableRow :=
  [ ⟨"WR_SPRRAM", 0x1500000000000000, 0xFF00000000000000⟩,
    ⟨"VBLANK", 0x2000000000000000, 0xF000000000000000⟩,
    ⟨"WR_CRTC_CTRL", 0x1900000000000000, 0xFF0FFFFF00000000⟩,
    ⟨"WR_CRTC_HBLANK", 0x1900000100000000, 0xFF0FFFFF00000000⟩,
    ⟨"WR_CRTC_HDISP", 0x1900000200000000, 0xFF0FFFFF00000000⟩,
    ⟨"WR_CRTC_VBLANK", 0x1900000300000000, 0xFF0FFFFF00000000⟩,
    ⟨"WR_CRTC_VDISP", 0x1900000400000000, 0xFF0FFFFF00000000⟩,
    ⟨"WR_CRTC_PORCH_BACK", 0x1900000500000000, 0xFF0FFFFF00000000⟩,
    ⟨"WR_CRTC_PORCH_FRONT", 0x1900000600000000, 0xFF0FFFFF00000000⟩,
    ⟨"WR_CRTC_UNKNOWN", 0x1900000000000000, 0xFF00000000000000⟩,
    ⟨"WR_PRIRAM", 0x1700000000000000, 0xFF00000000000000⟩,
    ⟨"RENDER", 0x3000000000000000, 0xF000000000000000⟩,
    ⟨"WR_PALRAM", 0x1600000000000000, 0xFF00000000000000⟩,
    ⟨"WR_BRIGHT_B0R0", 0x1A00000000000000, 0xFF0FFFFF00000000⟩,
    ⟨"WR_BRIGHT_B0R1", 0x1A00000100000000, 0xFF0FFFFF00000000⟩,
    ⟨"WR_BRIGHT_B1R0", 0x1A00000200000000, 0xFF0FFFFF00000000⟩,
    ⟨"WR_BRIGHT_B1R1", 0x1A00000300000000, 0xFF0FFFFF00000000⟩,
    ⟨"WR_BRIGHT_UNKNOWN", 0x1A00000000000000, 0xFF00000000000000⟩,
    ⟨"RESERVED_OPC", 0x0000000000000000, 0xF000000000000000⟩,
    ⟨"RESERVED_OPC", 0x4000000000000000, 0xC000000000000000⟩,
    ⟨"RESERVED_OPC", 0x8000000000000000, 0x8000000000000000⟩,
    ⟨"RESERVED_COMP", 0x1C00000000000000, 0xFC00000000000000⟩ ]

/-- spec/opcode_table.json, its 54 rows in order (R60). -/
def opcodeTable : List TableRow := tableTilemap ++ tableRoz ++ tableOther

/-- The heavier of two candidate rows; the earlier one where they weigh the same (R61: they never do). -/
def heavier (a : Option TableRow) (b : TableRow) : Option TableRow :=
  match a with
  | none => some b
  | some r => if r.weight < b.weight then some b else some r

/-- "The row whose `(w & mask) == match`, preferring the row whose mask has the most set bits" (R61). -/
def selectRow (w : OpWord) : Option TableRow := (opcodeTable.filter fun r => r.hits w).foldl heavier none

/-- The row of the table an operation stands for (R60). -/
def Instr.row : Instr → TableRow
  | .wrTxram _ _ _ => ⟨"WR_TXRAM", 0x1000000000000000, 0xFF00000000000000⟩
  | .wrBgram _ _ _ => ⟨"WR_BGRAM", 0x1100000000000000, 0xFF00000000000000⟩
  | .wrBgaltram _ _ _ => ⟨"WR_BGALTRAM", 0x1200000000000000, 0xFF00000000000000⟩
  | .wrRozram _ _ _ => ⟨"WR_ROZRAM", 0x1300000000000000, 0xFF00000000000000⟩
  | .wrLayerTxScrollx _ _ => ⟨"WR_LAYER_TX_SCROLLX", 0x1B00000000000000, 0xFF0FFFFF00000000⟩
  | .wrLayerTxScrolly _ _ => ⟨"WR_LAYER_TX_SCROLLY", 0x1B00000100000000, 0xFF0FFFFF00000000⟩
  | .wrLayerBgScrollx _ _ => ⟨"WR_LAYER_BG_SCROLLX", 0x1B00000200000000, 0xFF0FFFFF00000000⟩
  | .wrLayerBgScrolly _ _ => ⟨"WR_LAYER_BG_SCROLLY", 0x1B00000300000000, 0xFF0FFFFF00000000⟩
  | .wrLayerBgaltScrollx _ _ => ⟨"WR_LAYER_BGALT_SCROLLX", 0x1B00000400000000, 0xFF0FFFFF00000000⟩
  | .wrLayerBgaltScrolly _ _ => ⟨"WR_LAYER_BGALT_SCROLLY", 0x1B00000500000000, 0xFF0FFFFF00000000⟩
  | .wrLayerBgLayout _ _ => ⟨"WR_LAYER_BG_LAYOUT", 0x1B00000600000000, 0xFF0FFFFF00000000⟩
  | .wrLayerUnknown _ _ _ => ⟨"WR_LAYER_UNKNOWN", 0x1B00000000000000, 0xFF00000000000000⟩
  | .wrLineram _ _ _ => ⟨"WR_LINERAM", 0x1400000000000000, 0xFF00000000000000⟩
  | .wrRozctrlStartxLo _ _ => ⟨"WR_ROZCTRL_STARTX_LO", 0x1800000000000000, 0xFF0FFFFF00000000⟩
  | .wrRozctrlStartxHi _ _ => ⟨"WR_ROZCTRL_STARTX_HI", 0x1800000100000000, 0xFF0FFFFF00000000⟩
  | .wrRozctrlStartyLo _ _ => ⟨"WR_ROZCTRL_STARTY_LO", 0x1800000200000000, 0xFF0FFFFF00000000⟩
  | .wrRozctrlStartyHi _ _ => ⟨"WR_ROZCTRL_STARTY_HI", 0x1800000300000000, 0xFF0FFFFF00000000⟩
  | .wrRozctrlIncxxLo _ _ => ⟨"WR_ROZCTRL_INCXX_LO", 0x1800000400000000, 0xFF0FFFFF00000000⟩
  | .wrRozctrlIncxxHi _ _ => ⟨"WR_ROZCTRL_INCXX_HI", 0x1800000500000000, 0xFF0FFFFF00000000⟩
  | .wrRozctrlIncxyLo _ _ => ⟨"WR_ROZCTRL_INCXY_LO", 0x1800000600000000, 0xFF0FFFFF00000000⟩
  | .wrRozctrlIncxyHi _ _ => ⟨"WR_ROZCTRL_INCXY_HI", 0x1800000700000000, 0xFF0FFFFF00000000⟩
  | .wrRozctrlIncyyLo _ _ => ⟨"WR_ROZCTRL_INCYY_LO", 0x1800000800000000, 0xFF0FFFFF00000000⟩
  | .wrRozctrlIncyyHi _ _ => ⟨"WR_ROZCTRL_INCYY_HI", 0x1800000900000000, 0xFF0FFFFF00000000⟩
  | .wrRozctrlIncyxLo _ _ => ⟨"WR_ROZCTRL_INCYX_LO", 0x1800000A00000000, 0xFF0FFFFF00000000⟩
  | .wrRozctrlIncyxHi _ _ => ⟨"WR_ROZCTRL_INCYX_HI", 0x1800000B00000000, 0xFF0FFFFF00000000⟩
  | .wrRozctrlOffx _ _ => ⟨"WR_ROZCTRL_OFFX", 0x1800000C00000000, 0xFF0FFFFF00000000⟩
  | .wrRozctrlOffy _ _ => ⟨"WR_ROZCTRL_OFFY", 0x1800000D00000000, 0xFF0FFFFF00000000⟩
  | .wrRozctrlOffselx _ _ => ⟨"WR_ROZCTRL_OFFSELX", 0x1800000E00000000, 0xFF0FFFFF00000000⟩
  | .wrRozctrlOffsely _ _ => ⟨"WR_ROZCTRL_OFFSELY", 0x1800000F00000000, 0xFF0FFFFF00000000⟩
  | .wrRozctrlMode _ _ => ⟨"WR_ROZCTRL_MODE", 0x1800001700000000, 0xFF0FFFFF00000000⟩
  | .wrRozctrlSpare _ _ _ => ⟨"WR_ROZCTRL_SPARE", 0x1800001000000000, 0xFF0FFFF000000000⟩
  | .wrRozctrlUnknown _ _ _ => ⟨"WR_ROZCTRL_UNKNOWN", 0x1800000000000000, 0xFF00000000000000⟩
  | .wrSprram _ _ _ => ⟨"WR_SPRRAM", 0x1500000000000000, 0xFF00000000000000⟩
  | .vblank => ⟨"VBLANK", 0x2000000000000000, 0xF000000000000000⟩
  | .wrCrtcCtrl _ _ => ⟨"WR_CRTC_CTRL", 0x1900000000000000, 0xFF0FFFFF00000000⟩
  | .wrCrtcHblank _ _ => ⟨"WR_CRTC_HBLANK", 0x1900000100000000, 0xFF0FFFFF00000000⟩
  | .wrCrtcHdisp _ _ => ⟨"WR_CRTC_HDISP", 0x1900000200000000, 0xFF0FFFFF00000000⟩
  | .wrCrtcVblank _ _ => ⟨"WR_CRTC_VBLANK", 0x1900000300000000, 0xFF0FFFFF00000000⟩
  | .wrCrtcVdisp _ _ => ⟨"WR_CRTC_VDISP", 0x1900000400000000, 0xFF0FFFFF00000000⟩
  | .wrCrtcPorchBack _ _ => ⟨"WR_CRTC_PORCH_BACK", 0x1900000500000000, 0xFF0FFFFF00000000⟩
  | .wrCrtcPorchFront _ _ => ⟨"WR_CRTC_PORCH_FRONT", 0x1900000600000000, 0xFF0FFFFF00000000⟩
  | .wrCrtcUnknown _ _ _ => ⟨"WR_CRTC_UNKNOWN", 0x1900000000000000, 0xFF00000000000000⟩
  | .wrPriram _ _ _ => ⟨"WR_PRIRAM", 0x1700000000000000, 0xFF00000000000000⟩
  | .render _ _ _ _ => ⟨"RENDER", 0x3000000000000000, 0xF000000000000000⟩
  | .wrPalram _ _ _ => ⟨"WR_PALRAM", 0x1600000000000000, 0xFF00000000000000⟩
  | .wrBrightB0r0 _ _ => ⟨"WR_BRIGHT_B0R0", 0x1A00000000000000, 0xFF0FFFFF00000000⟩
  | .wrBrightB0r1 _ _ => ⟨"WR_BRIGHT_B0R1", 0x1A00000100000000, 0xFF0FFFFF00000000⟩
  | .wrBrightB1r0 _ _ => ⟨"WR_BRIGHT_B1R0", 0x1A00000200000000, 0xFF0FFFFF00000000⟩
  | .wrBrightB1r1 _ _ => ⟨"WR_BRIGHT_B1R1", 0x1A00000300000000, 0xFF0FFFFF00000000⟩
  | .wrBrightUnknown _ _ _ => ⟨"WR_BRIGHT_UNKNOWN", 0x1A00000000000000, 0xFF00000000000000⟩
  | .reservedOpc0 _ => ⟨"RESERVED_OPC", 0x0000000000000000, 0xF000000000000000⟩
  | .reservedOpc4to7 _ => ⟨"RESERVED_OPC", 0x4000000000000000, 0xC000000000000000⟩
  | .reservedOpc8to15 _ => ⟨"RESERVED_OPC", 0x8000000000000000, 0x8000000000000000⟩
  | .reservedComp _ => ⟨"RESERVED_COMP", 0x1C00000000000000, 0xFC00000000000000⟩

/-- What the decoder reads from the word of `nbits` bits `w`, every bit above `nbits` being 0; an operation word is exactly 64 bits
(R63), so a longer one is refused. -/
def decodeTableWord (nbits w : Nat) : Option Instr :=
  if nbits ≤ 64 then some (decode (BitVec.ofNat 64 (w % 2 ^ nbits))) else none

end Sys2Proof
end

