-- ==== Sys2Proof/Machine/Operands.lean ====
section
/-! DEFINITION. Operand assembly and the arithmetic of the spec (R14, R41, R59, R166 to R170). Everything is exact integer
arithmetic; for a positive divisor Lean's integer `/` rounds toward minus infinity and `%` is never negative, so they are the
spec's `floor_div` and `mod`, and on naturals `/` is its `trunc_div` too. -/

namespace Sys2Proof.Machine

/-- One lane of a lane mask: 0xFF when the lane is enabled, 0x00 otherwise (R41). -/
def laneByte (on : Bool) : Byte := if on then 0xFF else 0x00

/-- `lanemask(m)` (R41). -/
def lanemask (m : Lanes) : Word :=
  laneByte (m.getLsbD 3) ++ laneByte (m.getLsbD 2) ++ laneByte (m.getLsbD 1) ++ laneByte (m.getLsbD 0)

/-- A word with the addressed lanes replaced (R43, R44). -/
def mergeLanes (old data : Word) (m : Lanes) : Word := (old &&& ~~~lanemask m) ||| (data &&& lanemask m)

/-- The lane mask of a 16-bit register: lanes 0 and 1; lanes 2 and 3 are ignored (R44). -/
def lanes16 (m : Lanes) : BitVec 2 := m.extractLsb' 0 2

/-- `lanemask(m)[15:0]` for the lanes of a 16-bit register (R132, R159). -/
def lanemask16 (m : BitVec 2) : Half := laneByte (m.getLsbD 1) ++ laneByte (m.getLsbD 0)

/-- A 16-bit register with the addressed lanes replaced by those of `DATA[15:0]` (R44, R59). -/
def mergeLanes16 (old : Half) (data : Word) (m : BitVec 2) : Half :=
  (old &&& ~~~lanemask16 m) ||| (data.extractLsb' 0 16 &&& lanemask16 m)

/-- Bits [15:0] of a word (R21, R24, R26). -/
def lowHalf (w : Word) : Half := w.extractLsb' 0 16

/-- Bits [15:8] of a half word (R30, R155). -/
def highByte (h : Half) : Byte := h.extractLsb' 8 8

/-- Bits [7:0] of a half word (R30, R155). -/
def lowByte (h : Half) : Byte := h.extractLsb' 0 8

/-- `sext_N` (R14). -/
def sext {n : Nat} (v : BitVec n) : Int := v.toInt

/-- An 18-bit field `{HI[1:0], LO[15:0]}`, sign-extended (R59, R88). -/
def field18 (lo hi : Word) : Int := sext (hi.extractLsb' 0 2 ++ lo.extractLsb' 0 16)

/-- A CRTC width, `0x1000 - zext_16(raw)`, which may be negative (R128). -/
def crtcWidth (raw : Half) : Int := 0x1000 - (raw.toNat : Int)

/-- A brightness scale, `256 - zext_8(byte)` (R59, R159). -/
def brightScale (b : Byte) : Nat := 256 - b.toNat

/-- `trunc_div(c * s, 256)` for a channel and a scale or blend factor in 0..256 (R155, R150). -/
def scaleChannel (ch : Byte) (s : Nat) : Byte := BitVec.ofNat 8 (ch.toNat * s / 256)

/-- `a mod b` for an integer `a` and a positive `b`, in 0..b-1 (R14, R170). -/
def wrap (a : Int) (b : Nat) : Nat := (a % (b : Int)).toNat

/-- `floor_div(a, 2^F)` (R92, R167). -/
def floorFrac (a : Int) (frac : Nat) : Int := a / ((2 ^ frac : Nat) : Int)

end Sys2Proof.Machine
end

