-- ==== Sys2Proof/Config.lean ====
section
/-! DEFINITION. The configuration record `CFG` (R9 to R12), what the spec requires of every configuration, and the
configuration of the machine: an opaque legal one, so that whatever is proved of the machine holds for every legal one (log 3). -/

namespace Sys2Proof.Config

/-- The four tile layers (R3, R17). -/
inductive Layer where
  | tx | bg | bgalt | roz
  deriving DecidableEq, Repr, Inhabited

/-- The layers that have scroll registers (R28): TX, BG and BGALT. -/
inductive ScrollLayer where
  | tx | bg | bgalt
  deriving DecidableEq, Repr, Inhabited

/-- The storage spaces (R22 to R26): eight that a `WRITE` reaches (R39) and `SPR_DISP`, which none does. -/
inductive Space where
  | txram | bgram | bgaltram | rozram | lineram | sprLive | sprDisp | palram | priram
  deriving DecidableEq, Repr, Inhabited

/-- The layer control registers, in offset order (R28). -/
inductive LayerReg where
  | txScrollX | txScrollY | bgScrollX | bgScrollY | bgaltScrollX | bgaltScrollY | bgLayout
  deriving DecidableEq, Repr, Inhabited

/-- The CRTC registers, in offset order (R29). -/
inductive CrtcReg where
  | ctrl | hblank | hdisp | vblank | vdisp | porchBack | porchFront
  deriving DecidableEq, Repr, Inhabited

/-- The two brightness banks (R30). -/
inductive Bank where
  | b0 | b1
  deriving DecidableEq, Repr, Inhabited

/-- The two registers of a brightness bank (R30). -/
inductive BrtReg where
  | r0 | r1
  deriving DecidableEq, Repr, Inhabited

/-- `BGALT_TABLE_MODE` (R10, R22). -/
inductive TableMode where
  | separate | shared
  deriving DecidableEq, Repr, Inhabited

/-- `ROZ_FLIP_MODE` (R10, R91). -/
inductive RozFlipMode where
  | planeMirror | screenMirror | none
  deriving DecidableEq, Repr, Inhabited

/-- `SPR_ORDER` (R11, R125). -/
inductive SprOrder where
  | ascending | descending
  deriving DecidableEq, Repr, Inhabited

/-- `SLOT_TIE_MODE` (R11, R147). -/
inductive TieMode where
  | drawAll | firstOnly
  deriving DecidableEq, Repr, Inhabited

/-- `RESET_PROFILE` (R38). -/
inductive ResetProfile where
  | arbitrary | zero
  deriving DecidableEq, Repr, Inhabited

/-- The three slot counters of R146. -/
inductive Counter where
  | asc | scrl | rot
  deriving DecidableEq, Repr, Inhabited

/-- One check of `SLOT_PROGRAM` (R146). -/
structure SlotCheck where
  cell : Nat
  cmpmask : Half
  sentinel : Half
  onMatch : List Counter
  onMiss : List Counter
  deriving DecidableEq, Repr, Inhabited

/-- A rule of the decision table (R149). -/
inductive Rule where
  | showSpriteIfOpaque
  | alwaysTile
  | alphaBlendTile (f : Nat)
  | unhandled
  deriving DecidableEq, Repr, Inhabited

/-- A SpriteEntry record (R120). -/
structure SpriteEntry where
  disable : Bool
  pri : Nat
  flipx : Bool
  flipy : Bool
  code : Nat
  color : Nat
  tx : Nat
  ty : Nat
  xsize : Nat
  ysize : Nat
  sx : Int
  sy : Int
  xzoom : Nat
  yzoom : Nat
  deriving DecidableEq, Repr, Inhabited

/-- A clip rectangle with inclusive bounds (R58). -/
structure Clip where
  minx : Nat
  maxx : Nat
  miny : Nat
  maxy : Nat
  deriving DecidableEq, Repr, Inhabited

/-- A pixel of the clip (R58). -/
abbrev Clip.Holds (k : Clip) (x y : Nat) : Prop :=
  k.minx ≤ x ∧ x ≤ k.maxx ∧ k.miny ≤ y ∧ y ≤ k.maxy

/-- One destination pixel of a sprite blit (R123). -/
structure SprPixel where
  x : Nat
  y : Nat
  palidx : Half
  deriving DecidableEq, Repr, Inhabited

/-- The geometry outputs but for `REFRESH` (R33), and `DEFAULT_GEOMETRY` (R11). -/
structure Geometry where
  visW : Nat
  visH : Nat
  hTotal : Nat
  vTotal : Nat
  deriving DecidableEq, Repr, Inhabited

/-- The answer of a graphics oracle: a pen and a palette index (R12). -/
abbrev GfxPixel := Nat × Half

/-- The type of `SPR_GFX` (R12): code, colour, px, py. R12 gives its arguments no type; R120 types `code` and `color`. That `px` and
`py` are integers of either sign is the model's choice (DESIGN CHOICE, safe: log 18). -/
abbrev SprGfx := Nat → Nat → Int → Int → GfxPixel

/-- How a blit treats one axis of a sprite: what R123's items 4 and 5 speak of, with the sampling left open. Sizes and coordinates of the
graphics are in graphics pixels, `n` is the sprite's size, `z` its zoom and `d` a place of its destination box. -/
structure AxisMap where
  /-- the first graphics coordinate, from the tile offset (R120) -/
  start : Nat → Int
  /-- graphics pixels to a unit of `xsize` or `ysize` -/
  unit : Nat
  /-- where the destination box begins, from the screen position (R120) -/
  anchor : Nat → Nat → Int
  /-- `extent n z`: the length of the destination box -/
  extent : Nat → Nat → Nat
  /-- `source n z d`: the graphics pixel that place `d` shows, unflipped -/
  source : Nat → Nat → Nat → Nat
  /-- a flip mirrors the destination box; else it mirrors the graphics -/
  mirrorsBox : Bool
  /-- `scale z`: destination pixels to a graphics pixel -/
  scale : Nat → Rat

/-- The graphics pixel that place `d` of the box shows: flipped, the mirror image within the same box (R123 item 4). -/
def AxisMap.shown (a : AxisMap) (flip : Bool) (n z d : Nat) : Nat :=
  if flip then
    if a.mirrorsBox then a.source n z (a.extent n z - 1 - d) else n - 1 - a.source n z d
  else a.source n z d

/-- The zoom scales the sprite on the axis (R123 item 5), up to the rounding that the spec leaves open (log 7). -/
structure AxisMap.Scales (a : AxisMap) : Prop where
  unit_pos : 0 < a.unit
  scale_pos : ∀ z, 0 < z → 0 < a.scale z
  /-- the scale follows the zoom, in one direction or the other -/
  scale_strict : (∀ z z', 0 < z → z < z' → a.scale z < a.scale z') ∨ ∀ z z', 0 < z → z < z' → a.scale z' < a.scale z
  /-- the box is as long as the scaled sprite, to within a pixel -/
  extent_near : ∀ n z, 0 < z → (a.extent n z : Rat) < n * a.scale z + 1 ∧ (n : Rat) * a.scale z < a.extent n z + 1
  /-- the box shows pixels of the sprite -/
  source_lt : ∀ n z d, 0 < z → d < a.extent n z → a.source n z d < n
  /-- unflipped, it shows them in their order -/
  source_mono : ∀ n z d d', 0 < z → d ≤ d' → d' < a.extent n z → a.source n z d ≤ a.source n z d'
  /-- the scaled image of the pixel shown at `d` comes to within a pixel of `d` -/
  source_near : ∀ n z d, 0 < z → d < a.extent n z →
    (a.source n z d : Rat) * a.scale z < d + 2 ∧ (d : Rat) < (a.source n z d + 1) * a.scale z + 1

/-- The two axes of a blit. -/
structure BlitSampling where
  hor : AxisMap
  ver : AxisMap

/-- The width of a sprite's graphics in pixels. -/
def BlitSampling.width (m : BlitSampling) (e : SpriteEntry) : Nat := m.hor.unit * e.xsize

/-- The height of a sprite's graphics in pixels. -/
def BlitSampling.height (m : BlitSampling) (e : SpriteEntry) : Nat := m.ver.unit * e.ysize

/-- The left edge of a sprite's destination box. -/
def BlitSampling.left (m : BlitSampling) (e : SpriteEntry) : Int := e.sx + m.hor.anchor (m.width e) e.xzoom

/-- The top edge of a sprite's destination box. -/
def BlitSampling.top (m : BlitSampling) (e : SpriteEntry) : Int := e.sy + m.ver.anchor (m.height e) e.yzoom

/-- The graphics pixel that place `(dx, dy)` of a sprite's destination box shows. -/
def BlitSampling.pixel (m : BlitSampling) (gfx : SprGfx) (e : SpriteEntry) (dx dy : Nat) : GfxPixel :=
  gfx e.code e.color (m.hor.start e.tx + m.hor.shown e.flipx (m.width e) e.xzoom dx)
    (m.ver.start e.ty + m.ver.shown e.flipy (m.height e) e.yzoom dy)

/-- A sprite shows palette index `q` at `(x, y)`: the place is in its destination box and the graphics pixel there is opaque. -/
def BlitSampling.Shows (m : BlitSampling) (transpen : Nat) (gfx : SprGfx) (e : SpriteEntry) (x y : Nat) (q : Half) : Prop :=
  ∃ dx dy, dx < m.hor.extent (m.width e) e.xzoom ∧ dy < m.ver.extent (m.height e) e.yzoom ∧
    (x : Int) = m.left e + dx ∧ (y : Int) = m.top e + dy ∧
    (m.pixel gfx e dx dy).1 ≠ transpen ∧ (m.pixel gfx e dx dy).2 = q

/-- A blit of a sampling: the pixels of the clip at which the sprite shows something. -/
def sampledBlit (m : BlitSampling) (transpen : Nat) (gfx : SprGfx) (e : SpriteEntry) (k : Clip) : List SprPixel :=
  (List.range (k.maxx + 1) ×ˢ List.range (k.maxy + 1)).filterMap fun p =>
    let dx := ((p.1 : Int) - m.left e).toNat
    let dy := ((p.2 : Int) - m.top e).toNat
    let g := m.pixel gfx e dx dy
    if k.Holds p.1 p.2 ∧ m.left e ≤ p.1 ∧ dx < m.hor.extent (m.width e) e.xzoom ∧ m.top e ≤ p.2 ∧
        dy < m.ver.extent (m.height e) e.yzoom ∧ g.1 ≠ transpen then
      some ⟨p.1, p.2, g.2⟩
    else none

/-- A sampling that shows each graphics pixel `zoom` times, from the screen position on. It is there to show that a legal blit exists. -/
def magnify : AxisMap where
  start := fun t => t
  unit := 1
  anchor := fun _ _ => 0
  extent := fun n z => n * z
  source := fun _ z d => d / z
  mirrorsBox := false
  scale := fun z => z

/-- The draws of a run's start under `RESET_PROFILE = ARBITRARY` (R38, R192), one free value per element. The model's own
grouping of them; `OUT` is a draw under both profiles (log 6). -/
structure Draws where
  /-- lane `k` of word `i` of a storage space, at `4 * i + k` -/
  mem : Space → Nat → Byte := fun _ _ => 0
  rozctrl : Fin 32 → Word := fun _ => 0
  layer : LayerReg → Word := fun _ => 0
  crtc : CrtcReg → Half := fun _ => 0
  brt : Bank → BrtReg → Half := fun _ _ => 0
  scaleR : Fin 257 := 256
  scaleG : Fin 257 := 256
  scaleB : Fin 257 := 256
  flipX : Layer → Bool := fun _ => false
  flipY : Layer → Bool := fun _ => false
  tileColor : Nat → Half := fun _ => 0
  tileTag : Nat → BitVec 3 := fun _ => 0
  sprColor : Nat → Half := fun _ => 0
  sprPri : Nat → Nat := fun _ => 0
  out : Nat → Rgb := fun _ => ⟨0, 0, 0⟩

/-- The configuration record `CFG` (R9). A field's default is the value the tables of R10 and R11 give; where they give none
(OPEN) it is one legal choice, which nothing rests on. `WORD_BITS`, `LANES` and the fixed strides are in the types. -/
structure Cfg where
  /-- `COLS_L`, OPEN (R10) -/
  cols : Layer → Nat := fun _ => 1
  /-- `ROWS_L`, OPEN (R10) -/
  rows : Layer → Nat := fun _ => 1
  /-- `TW_L`, OPEN (R10) -/
  tw : Layer → Nat := fun _ => 1
  /-- `TH_L`, OPEN (R10) -/
  th : Layer → Nat := fun _ => 1
  /-- `BGALT_TABLE_MODE` (R10). That `SHARED` is admitted with a BGALT grid of more cells than BG's is the model's choice (DESIGN CHOICE,
  safe: log 21) -/
  bgaltTableMode : TableMode := .separate
  /-- `COLOR_BANK_L` (R10) -/
  colorBank : Layer → Nat := fun _ => 0
  /-- `TRANSPEN_L` (R10) -/
  transpen : Layer → Nat := fun _ => 0
  /-- `TAG_TX` (R10) -/
  tagTx : BitVec 3 := 3
  /-- `TAG_BG` (R10) -/
  tagBg : BitVec 3 := 1
  /-- `TAG_ROZ` (R10) -/
  tagRoz : BitVec 3 := 2
  /-- `ROZ_FRAC_BITS` (R10) -/
  rozFracBits : Nat := 8
  /-- `ROZ_OFFSET_BIAS`, OPEN (R10, R89), in whole pixels: "an optional non-negative bias" (R167) -/
  rozOffsetBias : Nat := 0
  /-- `ROZ_FLIP_MODE`, OPEN (R10) -/
  rozFlipMode : RozFlipMode := .none
  /-- `SPR_ENTRIES`, OPEN (R11) -/
  sprEntries : Nat := 1
  /-- `SPR_ORDER`, OPEN (R11) -/
  sprOrder : SprOrder := .ascending
  /-- `SPR_LAYOUT`, OPEN (R11): bits [15:0] of the eight words of an entry, to the record of R120 -/
  sprLayout : (Fin 8 → Half) → SpriteEntry := fun _ => default
  /-- `SPR_BLIT`, OPEN (R11): the pixels of a sprite for the graphics it is given, inside a clip (R123) -/
  sprBlit : SprGfx → SpriteEntry → Clip → List SprPixel := sampledBlit ⟨magnify, magnify⟩ 0
  /-- `SPR_TRANSPEN` (R11) -/
  sprTranspen : Nat := 0
  /-- `SPR_PRI_BITS`, OPEN (R11) -/
  sprPriBits : Nat := 8
  /-- `PAL_ENTRIES` (R11) -/
  palEntries : Nat := 0x8000
  /-- `BRIGHT_BANK` (R11) -/
  brightBank : Bank := .b0
  /-- `PRI_WORDS`, OPEN (R11) -/
  priWords : Nat := 1
  /-- `PRI_PATTERN`, OPEN (R11) -/
  priPattern : Fin 8 → Half := fun _ => 0
  /-- `PRI_BASE`, OPEN (R11). The spec gives it no type; that it is a natural number is the model's choice (DESIGN CHOICE: log 20) -/
  priBase : Fin 8 → Nat := fun _ => 0
  /-- `PRI_LUT`, OPEN (R11): mask and tag to rule -/
  priLut : BitVec 8 → BitVec 3 → Rule := fun m _ => if m = 0 then .alwaysTile else .unhandled
  /-- `SLOT_PROGRAM`, OPEN (R11): "the three cell reads" (R146) -/
  slotProgram : List SlotCheck := List.replicate 3 ⟨0, 0, 1, [], []⟩
  /-- `SLOT_TIE_MODE`, OPEN (R11) -/
  slotTieMode : TieMode := .drawAll
  /-- `BLEND_KEEP`, OPEN (R11) -/
  blendKeep : Nat := 0
  /-- `PLACEHOLDER_RGB` (R11) -/
  placeholder : Rgb := ⟨0xFF, 0x00, 0xFF⟩
  /-- `PIXCLK[0]`, OPEN (R11), in Hz -/
  pixclk0 : Rat := 0
  /-- `PIXCLK[1]`, OPEN (R11), in Hz -/
  pixclk1 : Rat := 0
  /-- `DEFAULT_GEOMETRY`, OPEN (R11) -/
  defaultGeometry : Geometry := ⟨1, 1, 1, 1⟩
  /-- `OUT_W`, OPEN (R11) -/
  outW : Nat := 1
  /-- `OUT_H`, OPEN (R11) -/
  outH : Nat := 1
  /-- `TILE_GFX`, OPEN (R11, R12): layer, tile, colour, u, v -/
  tileGfx : Layer → Half → Nat → Nat → Nat → GfxPixel := fun _ _ _ _ _ => (0, 0)
  /-- `SPR_GFX`, OPEN (R11, R12): code, colour, px, py -/
  sprGfx : SprGfx := fun _ _ _ _ => (0, 0)
  /-- `RESET_PROFILE` (R38) -/
  resetProfile : ResetProfile := .arbitrary
  /-- the draws of the run's start (R192) -/
  draws : Draws := {}

/-- The contract every choice of `SPR_BLIT` must meet (R123). Item 3 is in the type of the field: a blit takes the entry, the clip and
the graphics. Items 4 and 5 are read as log 7 says (DEDUCED); the sampling they leave open is left open. -/
structure BlitContract (c : Cfg) : Prop where
  /-- item 1 -/
  inside : ∀ gfx e k p, p ∈ c.sprBlit gfx e k → k.Holds p.x p.y
  /-- item 2 -/
  fromGfx : ∀ gfx e k p, p ∈ c.sprBlit gfx e k →
    ∃ px py, (gfx e.code e.color px py).1 ≠ c.sprTranspen ∧ (gfx e.code e.color px py).2 = p.palidx
  /-- "at most one per `(X, Y)`" -/
  unique : ∀ gfx e k, ((c.sprBlit gfx e k).map fun p => (p.x, p.y)).Nodup
  /-- items 4 and 5, for an entry that is not skipped for a zero zoom (R122): the pixels are those of one sampling of the two axes that
  scales by the zooms and mirrors by the flips -/
  sampled : ∃ m : BlitSampling, m.hor.Scales ∧ m.ver.Scales ∧
    ∀ gfx e k x y q, 0 < e.xzoom → 0 < e.yzoom →
      (⟨x, y, q⟩ ∈ c.sprBlit gfx e k ↔ k.Holds x y ∧ m.Shows c.sprTranspen gfx e x y q)

/-- How often a counter is incremented when `SLOT_PROGRAM` runs on an all-zero `PRIRAM` (R146): a check hits there exactly when
its sentinel is 0. Stated on its own so that R153's condition (ii) can be required of a configuration. -/
def Cfg.slotOnZero (c : Cfg) (n : Counter) : Nat :=
  (c.slotProgram.map fun k => (if k.sentinel = 0 then k.onMatch else k.onMiss).count n).sum

/-- What the spec requires of every configuration, and the values of the parameters to which its tables give one (log 4). The
positivity of the sizes is read from the rules that divide by them (log 5). -/
structure Cfg.Legal (c : Cfg) : Prop where
  /-- a grid has cells and a cell has pixels (R67; log 5) -/
  cols_pos : ∀ L, 0 < c.cols L
  rows_pos : ∀ L, 0 < c.rows L
  tw_pos : ∀ L, 0 < c.tw L
  th_pos : ∀ L, 0 < c.th L
  /-- "distinct, in 1..7" (R10) -/
  tags_nonzero : c.tagTx ≠ 0 ∧ c.tagBg ≠ 0 ∧ c.tagRoz ≠ 0
  tags_distinct : c.tagTx ≠ c.tagBg ∧ c.tagTx ≠ c.tagRoz ∧ c.tagBg ≠ c.tagRoz
  /-- `COLOR_BANK_L` is 0 for every L (R10) -/
  colorBank_eq : ∀ L, c.colorBank L = 0
  /-- `TRANSPEN_L` is 0 for every L (R10) -/
  transpen_eq : ∀ L, c.transpen L = 0
  /-- `SPR_TRANSPEN` is 0 (R11) -/
  sprTranspen_eq : c.sprTranspen = 0
  /-- `ROZ_FRAC_BITS` is fixed (R10, R90) -/
  rozFracBits_eq : c.rozFracBits = 8
  /-- `PAL_ENTRIES` (R11, R156) -/
  palEntries_eq : c.palEntries = 0x8000
  /-- `PLACEHOLDER_RGB` is fixed (R11, R151) -/
  placeholder_eq : c.placeholder = ⟨0xFF, 0x00, 0xFF⟩
  /-- R123 -/
  blit : BlitContract c
  /-- a modulus is positive (R170; log 5) -/
  priWords_pos : 0 < c.priWords
  sprEntries_pos : 0 < c.sprEntries
  /-- "the list has three checks unless a model names otherwise" (R146); this model names no other count (log 4) -/
  slot_three : c.slotProgram.length = 3
  /-- `cell < PRI_WORDS` (R146) -/
  slot_cells : ∀ k ∈ c.slotProgram, k.cell < c.priWords
  /-- R149 (a) -/
  lut_masks : ∃ ms : List (BitVec 8), ms.length ≤ 8 ∧ 0 ∈ ms ∧ ∀ m t, c.priLut m t ≠ .unhandled → m ∈ ms
  /-- R149 (b), and `f` in 0..256 -/
  lut_blend : ∀ m t f, c.priLut m t = .alphaBlendTile f → f = c.blendKeep
  blendKeep_le : c.blendKeep ≤ 256
  /-- R149 (c): R153 (i) -/
  lut_zero : c.priLut 0 c.tagBg = .showSpriteIfOpaque ∨ c.priLut 0 c.tagBg = .alwaysTile
  /-- R149 (c): R153 (ii) -/
  slot_zero : c.slotOnZero .scrl < 4
  slot_zero_tie : c.slotTieMode = .firstOnly → c.slotOnZero .rot ≠ c.slotOnZero .scrl
  /-- the default geometry is a geometry (R33, R168; log 5) -/
  default_pos : 0 < c.defaultGeometry.visW ∧ 0 < c.defaultGeometry.visH ∧
    0 < c.defaultGeometry.hTotal ∧ 0 < c.defaultGeometry.vTotal
  /-- the bitmap has pixels (R37; log 5) -/
  out_pos : 0 < c.outW ∧ 0 < c.outH

theorem magnify_scales : magnify.Scales where
  unit_pos := Nat.one_pos
  scale_pos := fun z hz => by simpa [magnify] using hz
  scale_strict := .inl fun z z' _ h => by simpa [magnify] using h
  extent_near := fun n z _ => by simp [magnify]
  source_lt := fun n z d hz h => by
    simp only [magnify] at h ⊢
    exact (Nat.div_lt_iff_lt_mul hz).2 h
  source_mono := fun n z d d' _ h _ => Nat.div_le_div_right h
  source_near := fun n z d hz _ => by
    have h1 : d / z * z < d + 2 := Nat.lt_add_right 1 (Nat.lt_succ_of_le (Nat.div_mul_le_self d z))
    have h2 : d < (d / z + 1) * z + 1 := by
      have := Nat.lt_mul_div_succ d hz
      rw [Nat.mul_comm] at this
      omega
    simp only [magnify]
    exact ⟨by exact_mod_cast h1, by exact_mod_cast h2⟩

theorem mem_sampledBlit {m : BlitSampling} {transpen : Nat} {gfx : SprGfx} {e : SpriteEntry} {k : Clip} {p : SprPixel} :
    p ∈ sampledBlit m transpen gfx e k ↔ k.Holds p.x p.y ∧ m.Shows transpen gfx e p.x p.y p.palidx := by
  simp only [sampledBlit, List.mem_filterMap, Prod.exists, List.mem_product, List.mem_range, Option.ite_none_right_eq_some,
    Option.some.injEq, BlitSampling.Shows]
  constructor
  · rintro ⟨x, y, -, ⟨hk, hx, hdx, hy, hdy, hp⟩, rfl⟩
    exact ⟨hk, _, _, hdx, hdy, by dsimp only; omega, by dsimp only; omega, hp, rfl⟩
  · rintro ⟨hk, dx, dy, hdx, hdy, hx, hy, hp, hq⟩
    have ex : ((p.x : Int) - m.left e).toNat = dx := by omega
    have ey : ((p.y : Int) - m.top e).toNat = dy := by omega
    refine ⟨p.x, p.y, ⟨by have := hk.2.1; omega, by have := hk.2.2.2; omega⟩, ?_, ?_⟩
    · rw [ex, ey]; exact ⟨hk, by omega, hdx, by omega, hdy, hp⟩
    · rw [ex, ey, hq]

/-- A blit of a sampling that scales on both axes meets the contract (R123). -/
theorem blitContract_sampled {c : Cfg} {m : BlitSampling} (hh : m.hor.Scales) (hv : m.ver.Scales)
    (h : c.sprBlit = sampledBlit m c.sprTranspen) : BlitContract c where
  inside := fun gfx e k p hp => (mem_sampledBlit.1 (h ▸ hp)).1
  fromGfx := fun gfx e k p hp => by
    obtain ⟨-, dx, dy, -, -, -, -, hq⟩ := mem_sampledBlit.1 (h ▸ hp)
    exact ⟨_, _, hq⟩
  unique := fun gfx e k => by
    rw [h, sampledBlit, List.map_filterMap]
    refine (List.nodup_range.product List.nodup_range).filterMap fun a a' b ha ha' => ?_
    simp only [Option.mem_def, Option.map_eq_some_iff, Option.ite_none_right_eq_some, Option.some.injEq] at ha ha'
    obtain ⟨_, ⟨_, rfl⟩, rfl⟩ := ha
    obtain ⟨_, ⟨_, rfl⟩, ha'⟩ := ha'
    simpa [Prod.ext_iff, eq_comm] using ha'
  sampled := ⟨m, hh, hv, fun gfx e k x y q _ _ => by rw [h, mem_sampledBlit]⟩

/-- There is a legal configuration. -/
theorem legal_default : ({} : Cfg).Legal where
  cols_pos := fun _ => Nat.one_pos
  rows_pos := fun _ => Nat.one_pos
  tw_pos := fun _ => Nat.one_pos
  th_pos := fun _ => Nat.one_pos
  tags_nonzero := by decide
  tags_distinct := by decide
  colorBank_eq := fun _ => rfl
  transpen_eq := fun _ => rfl
  sprTranspen_eq := rfl
  rozFracBits_eq := rfl
  palEntries_eq := rfl
  placeholder_eq := rfl
  blit := blitContract_sampled magnify_scales magnify_scales rfl
  priWords_pos := by decide
  sprEntries_pos := by decide
  slot_three := rfl
  slot_cells := by decide
  lut_masks := ⟨[0], by decide, by decide, by intro m t; simp only; split <;> simp_all⟩
  lut_blend := by intro m t f; simp only; split <;> simp
  blendKeep_le := by decide
  lut_zero := by decide
  slot_zero := by decide
  slot_zero_tie := by decide
  default_pos := by decide
  out_pos := by decide

/-- A configuration that meets every requirement of the spec. -/
structure LegalCfg where
  cfg : Cfg := {}
  legal : cfg.Legal := by exact legal_default
  deriving Inhabited

/-- The configuration of the machine: no body, so nothing can be proved of it but that it is legal (R9; log 3). -/
opaque legalCfg : LegalCfg

/-- `CFG` of the machine (R9). -/
abbrev cfg : Cfg := legalCfg.cfg

/-- The machine's configuration is legal. -/
theorem cfg_legal : cfg.Legal := legalCfg.legal

end Sys2Proof.Config
end

