-- ==== Sys2Proof/Machine/State.lean ====
section
/-! DEFINITION. The state of the block, whole and as plain data (R18 to R37), the reasons a step can stop (there are none, R174),
and the state at the start of a run (R38, R192). -/

namespace Sys2Proof.Machine

open Sys2Proof.Config

/-- The reasons a step can fault. There are none: "A model therefore has no fault state for the block" (R174). -/
inductive Fault where
  deriving DecidableEq, Repr

/-- The reasons a step can be refused. -/
inductive Refusal where
  /-- Raised by an arm of `exec` whose operation has no meaning yet (safe: the model stops). No arm raises it now. -/
  | notModelled (mnemonic : String)
  deriving DecidableEq, Repr

/-- A storage space: byte cells at `4 * i + k` for lane `k` of word `i`, in canonical form (R21, R41; log 8). -/
abbrev Memory := List Host.Cell

/-- A pixel buffer: values at `y * OUT_W + x`, in the same canonical form (R34, R37). -/
abbrev Plane (α : Type) := List (Nat × α)

/-- The contents of the nine storage spaces (R22 to R26). -/
structure Storage where
  txram : Memory
  bgram : Memory
  bgaltram : Memory
  rozram : Memory
  lineram : Memory
  sprLive : Memory
  sprDisp : Memory
  palram : Memory
  priram : Memory
  deriving DecidableEq, Repr

/-- The layer control registers (R28). -/
structure LayerRegs where
  txScrollX : Word
  txScrollY : Word
  bgScrollX : Word
  bgScrollY : Word
  bgaltScrollX : Word
  bgaltScrollY : Word
  bgLayout : Word
  deriving DecidableEq, Repr

/-- The CRTC registers, raw (R29, R128). -/
structure CrtcRegs where
  ctrl : Half
  hblank : Half
  hdisp : Half
  vblank : Half
  vdisp : Half
  porchBack : Half
  porchFront : Half
  deriving DecidableEq, Repr

/-- The brightness registers `BRT[b][r]` (R30). -/
structure BrtRegs where
  b0r0 : Half
  b0r1 : Half
  b1r0 : Half
  b1r1 : Half
  deriving DecidableEq, Repr

/-- `SCALE_R`, `SCALE_G`, `SCALE_B`, integers in 0..256 (R31). -/
structure Scales where
  r : Nat
  g : Nat
  b : Nat
  deriving DecidableEq, Repr

/-- One flip bit for each layer (R32). -/
structure LayerBits where
  tx : Bool
  bg : Bool
  bgalt : Bool
  roz : Bool
  deriving DecidableEq, Repr

/-- The four scratch buffers (R34). -/
structure Scratch where
  tileColor : Plane Half
  tileTag : Plane (BitVec 3)
  sprColor : Plane Half
  sprPri : Plane Nat
  deriving DecidableEq, Repr

/-- `PAL_RGB`, held as the palette table and the scales at the moment of the `RENDER` that computed it (R35; log 10). -/
structure PalLatch where
  ram : Memory
  scales : Scales
  deriving DecidableEq, Repr

/-- A diagnostic record (R175), by its code, with the code's info. -/
inductive Diag where
  /-- `DIAG_BAD_OP`: the operation word (R176) -/
  | badOp (w : OpWord)
  /-- `DIAG_UNKNOWN_REG` (R177) -/
  | unknownReg (comp : BitVec 4) (off : Offset) (data : Word)
  /-- `DIAG_OFFSET_RANGE` (R178) -/
  | offsetRange (comp : BitVec 4) (off : Offset)
  /-- `DIAG_GEOMETRY_CLAMP`: the widths before clamping (R179) -/
  | geometryClamp (hb hd vb vd : Int)
  /-- `DIAG_PORCH`: the register's offset and its value (R138, R139) -/
  | porch (offset : Nat) (value : Half)
  /-- `DIAG_UNHANDLED_MASK` (R180) -/
  | unhandledMask (mask : BitVec 8) (tag : BitVec 3) (x y : Nat)
  deriving DecidableEq, Repr

/-- The severities of R175. -/
inductive Severity where
  | info | warning
  deriving DecidableEq, Repr

/-- The status a `RENDER` returns: always `OK` (R143). -/
inductive RenderStatus where
  | ok
  deriving DecidableEq, Repr

/-- The state of the block. -/
structure State where
  /-- operation words delivered and not yet taken, the next one first (R4, R19, R49; log 1) -/
  stream : List OpWord
  /-- the storage spaces (R22 to R26) -/
  mem : Storage
  /-- `ROZCTRL[0..31]` (R27) -/
  rozctrl : Vector Word 32
  /-- the layer control registers (R28) -/
  layer : LayerRegs
  /-- the CRTC registers (R29) -/
  crtc : CrtcRegs
  /-- the brightness registers (R30) -/
  brt : BrtRegs
  /-- the brightness scales (R31) -/
  scales : Scales
  /-- `FLIPX_L` (R32) -/
  flipX : LayerBits
  /-- `FLIPY_L` (R32) -/
  flipY : LayerBits
  /-- `VIS_W`, `VIS_H`, `HTOTAL`, `VTOTAL` (R33) -/
  geom : Geometry
  /-- `REFRESH`, in Hz (R33, R130) -/
  refresh : Rat
  /-- the scratch buffers (R34; log 12) -/
  scratch : Scratch
  /-- `PAL_RGB` (R35; log 10) -/
  palLatch : PalLatch
  /-- `DIAG_LOG`, the oldest record first (R36) -/
  diagLog : List Diag
  /-- `UNHANDLED_COUNT` (R36) -/
  unhandledCount : Nat
  /-- `OUT` (R37) -/
  out : Plane Rgb
  /-- what the latest `RENDER` returned (R143; log 11) -/
  renderStatus : Option RenderStatus
  deriving DecidableEq, Repr

/-- What an element that R38 calls unspecified holds at the start of a run: a draw under `ARBITRARY`, the second column's value
under `ZERO`. -/
def profiled {α : Type} (c : Cfg) (draw zero : α) : α :=
  match c.resetProfile with
  | .arbitrary => draw
  | .zero => zero

/-- The start of a run under the configuration `c` (R38, R192, R193). No memory lists a cell: an unlisted one reads as the reset
contents. -/
def State.resetOf (c : Cfg) : State where
  stream := []
  mem := ⟨[], [], [], [], [], [], [], [], []⟩
  rozctrl := profiled c (Vector.ofFn c.draws.rozctrl) (Vector.replicate 32 0)
  layer := profiled c
    ⟨c.draws.layer .txScrollX, c.draws.layer .txScrollY, c.draws.layer .bgScrollX, c.draws.layer .bgScrollY,
      c.draws.layer .bgaltScrollX, c.draws.layer .bgaltScrollY, c.draws.layer .bgLayout⟩
    ⟨0, 0, 0, 0, 0, 0, 0⟩
  crtc := profiled c
    ⟨c.draws.crtc .ctrl, c.draws.crtc .hblank, c.draws.crtc .hdisp, c.draws.crtc .vblank, c.draws.crtc .vdisp,
      c.draws.crtc .porchBack, c.draws.crtc .porchFront⟩
    ⟨0, 0, 0, 0, 0, 0, 0⟩
  brt := profiled c
    ⟨c.draws.brt .b0 .r0, c.draws.brt .b0 .r1, c.draws.brt .b1 .r0, c.draws.brt .b1 .r1⟩ ⟨0, 0, 0, 0⟩
  scales := profiled c ⟨c.draws.scaleR, c.draws.scaleG, c.draws.scaleB⟩ ⟨256, 256, 256⟩
  flipX := profiled c ⟨c.draws.flipX .tx, c.draws.flipX .bg, c.draws.flipX .bgalt, c.draws.flipX .roz⟩
    ⟨false, false, false, false⟩
  flipY := profiled c ⟨c.draws.flipY .tx, c.draws.flipY .bg, c.draws.flipY .bgalt, c.draws.flipY .roz⟩
    ⟨false, false, false, false⟩
  geom := c.defaultGeometry
  refresh := mkRat c.pixclk0.num (c.pixclk0.den * (c.defaultGeometry.hTotal * c.defaultGeometry.vTotal))
  scratch := ⟨[], [], [], []⟩
  palLatch := ⟨[], profiled c ⟨c.draws.scaleR, c.draws.scaleG, c.draws.scaleB⟩ ⟨256, 256, 256⟩⟩
  diagLog := []
  unhandledCount := 0
  out := []
  renderStatus := none

/-- The machine right after reset: the start of a run under the machine's configuration (R192). -/
def State.reset : State := State.resetOf cfg

end Sys2Proof.Machine
end

