-- ==== Sys2Proof/Machine/Ops.lean ====
section
/-! DEFINITION. The named operations over storage, registers and the operation stream (R39 to R45, R49, R96, R177, R204). The block
takes no exception and returns from none (R182): what stands in their place, raising a diagnostic, is in Flags.lean. -/

namespace Sys2Proof.Machine

open Sys2Proof.Config

/-! ## Cells in canonical form (log 8) -/

/-- The value at an address: what is listed, or what an unlisted address reads as. -/
def cellRead {α : Type} (d : Nat → α) : List (Nat × α) → Nat → α
  | [], a => d a
  | (b, v) :: m, a => if a = b then v else cellRead d m a

/-- Removing an address from the list. -/
def cellErase {α : Type} : List (Nat × α) → Nat → List (Nat × α)
  | [], _ => []
  | (b, w) :: m, a => if a = b then cellErase m a else (b, w) :: cellErase m a

/-- Listing an address that the list does not hold, before the first greater one. -/
def cellInsert {α : Type} : List (Nat × α) → Nat → α → List (Nat × α)
  | [], a, v => [(a, v)]
  | (b, w) :: m, a, v => if a < b then (a, v) :: (b, w) :: m else (b, w) :: cellInsert m a v

/-- Writing one cell; a value equal to what an unlisted address reads as is not listed. -/
def cellWrite {α : Type} [DecidableEq α] (d : Nat → α) (m : List (Nat × α)) (a : Nat) (v : α) : List (Nat × α) :=
  if v = d a then cellErase m a else cellInsert (cellErase m a) a v

/-- The canonical form: addresses strictly rising, and no entry equal to what an unlisted address reads as. -/
def cellsWf {α : Type} [DecidableEq α] (d : Nat → α) : List (Nat × α) → Bool
  | [] => true
  | (a, v) :: m => decide (v ≠ d a) && m.all (fun e => decide (a < e.1)) && cellsWf d m

/-- The canonical form of a storage space. -/
def Memory.wf (d : Nat → Byte) (m : Memory) : Bool := cellsWf d m

/-! ## Storage spaces -/

/-- The size of a space in words (R39). -/
def spaceSize (c : Cfg) : Space → Nat
  | .txram => 2 * (c.cols .tx * c.rows .tx)
  | .bgram => 2 * (c.cols .bg * c.rows .bg)
  | .bgaltram => 2 * (c.cols .bgalt * c.rows .bgalt)
  | .rozram => 2 * (c.cols .roz * c.rows .roz)
  | .lineram => 256 * 8
  | .sprLive => 8 * c.sprEntries
  | .sprDisp => 8 * c.sprEntries
  | .palram => 2 * c.palEntries
  | .priram => c.priWords

/-- What an unlisted byte of a space reads as: the reset contents, a draw under `ARBITRARY` and 0 under `ZERO` (R38, R192). -/
def resetByte (c : Cfg) (sp : Space) (a : Nat) : Byte := profiled c (c.draws.mem sp a) 0

/-- Lane `k` of word `i` is the byte at `4 * i + k` (R41; log 8). -/
def readWord (d : Nat → Byte) (m : Memory) (i : Nat) : Word :=
  cellRead d m (4 * i + 3) ++ cellRead d m (4 * i + 2) ++ cellRead d m (4 * i + 1) ++ cellRead d m (4 * i)

/-- Storing a whole word, lane by lane (R41). -/
def writeWord (d : Nat → Byte) (m : Memory) (i : Nat) (v : Word) : Memory :=
  let m0 := cellWrite d m (4 * i) (v.extractLsb' 0 8)
  let m1 := cellWrite d m0 (4 * i + 1) (v.extractLsb' 8 8)
  let m2 := cellWrite d m1 (4 * i + 2) (v.extractLsb' 16 8)
  cellWrite d m2 (4 * i + 3) (v.extractLsb' 24 8)

/-- The contents of a space. -/
def Storage.get (m : Storage) : Space → Memory
  | .txram => m.txram
  | .bgram => m.bgram
  | .bgaltram => m.bgaltram
  | .rozram => m.rozram
  | .lineram => m.lineram
  | .sprLive => m.sprLive
  | .sprDisp => m.sprDisp
  | .palram => m.palram
  | .priram => m.priram

/-- Replacing the contents of a space. -/
def Storage.set (m : Storage) (sp : Space) (v : Memory) : Storage :=
  match sp with
  | .txram => { m with txram := v }
  | .bgram => { m with bgram := v }
  | .bgaltram => { m with bgaltram := v }
  | .rozram => { m with rozram := v }
  | .lineram => { m with lineram := v }
  | .sprLive => { m with sprLive := v }
  | .sprDisp => { m with sprDisp := v }
  | .palram => { m with palram := v }
  | .priram => { m with priram := v }

/-- The byte at an address of a space: lane `a % 4` of word `a / 4`. -/
def byteAt (c : Cfg) (m : Storage) (sp : Space) (a : Nat) : Byte := cellRead (resetByte c sp) (m.get sp) a

/-- The word at an index of a space, with no reduction. -/
def wordAt (c : Cfg) (m : Storage) (sp : Space) (i : Nat) : Word := readWord (resetByte c sp) (m.get sp) i

/-- `MemRead(S, i)`: cell `i mod size(S)` (R40). -/
def memRead (c : Cfg) (m : Storage) (sp : Space) (i : Nat) : Word := wordAt c m sp (i % spaceSize c sp)

/-- The space of a layer's attribute table (R22): BGALT reads `BGRAM` under `SHARED`, where an index past `BGRAM` wraps as R40 says
(log 21). -/
def tableSpace (c : Cfg) : Layer → Space
  | .tx => .txram
  | .bg => .bgram
  | .bgalt => match c.bgaltTableMode with
    | .separate => .bgaltram
    | .shared => .bgram
  | .roz => .rozram

/-! ## Registers by name -/

/-- A layer control register (R28). -/
def LayerRegs.get (r : LayerRegs) : LayerReg → Word
  | .txScrollX => r.txScrollX
  | .txScrollY => r.txScrollY
  | .bgScrollX => r.bgScrollX
  | .bgScrollY => r.bgScrollY
  | .bgaltScrollX => r.bgaltScrollX
  | .bgaltScrollY => r.bgaltScrollY
  | .bgLayout => r.bgLayout

/-- Replacing a layer control register (R28). -/
def LayerRegs.set (r : LayerRegs) (k : LayerReg) (v : Word) : LayerRegs :=
  match k with
  | .txScrollX => { r with txScrollX := v }
  | .txScrollY => { r with txScrollY := v }
  | .bgScrollX => { r with bgScrollX := v }
  | .bgScrollY => { r with bgScrollY := v }
  | .bgaltScrollX => { r with bgaltScrollX := v }
  | .bgaltScrollY => { r with bgaltScrollY := v }
  | .bgLayout => { r with bgLayout := v }

/-- A CRTC register (R29). -/
def CrtcRegs.get (r : CrtcRegs) : CrtcReg → Half
  | .ctrl => r.ctrl
  | .hblank => r.hblank
  | .hdisp => r.hdisp
  | .vblank => r.vblank
  | .vdisp => r.vdisp
  | .porchBack => r.porchBack
  | .porchFront => r.porchFront

/-- Replacing a CRTC register (R29). -/
def CrtcRegs.set (r : CrtcRegs) (k : CrtcReg) (v : Half) : CrtcRegs :=
  match k with
  | .ctrl => { r with ctrl := v }
  | .hblank => { r with hblank := v }
  | .hdisp => { r with hdisp := v }
  | .vblank => { r with vblank := v }
  | .vdisp => { r with vdisp := v }
  | .porchBack => { r with porchBack := v }
  | .porchFront => { r with porchFront := v }

/-- A brightness register (R30). -/
def BrtRegs.get (t : BrtRegs) : Bank → BrtReg → Half
  | .b0, .r0 => t.b0r0
  | .b0, .r1 => t.b0r1
  | .b1, .r0 => t.b1r0
  | .b1, .r1 => t.b1r1

/-- Replacing a brightness register (R30). -/
def BrtRegs.set (t : BrtRegs) (b : Bank) (r : BrtReg) (v : Half) : BrtRegs :=
  match b, r with
  | .b0, .r0 => { t with b0r0 := v }
  | .b0, .r1 => { t with b0r1 := v }
  | .b1, .r0 => { t with b1r0 := v }
  | .b1, .r1 => { t with b1r1 := v }

/-- A layer's flip bit (R32). -/
def LayerBits.get (b : LayerBits) : Layer → Bool
  | .tx => b.tx
  | .bg => b.bg
  | .bgalt => b.bgalt
  | .roz => b.roz

/-- The same bit for every layer (R131). -/
def LayerBits.all (v : Bool) : LayerBits := ⟨v, v, v, v⟩

/-! ## State updates, one a component -/

/-- Replacing the stream. -/
def State.setStream (s : State) (v : List OpWord) : State := { s with stream := v }

/-- Replacing the contents of one storage space. -/
def State.setMem (s : State) (sp : Space) (v : Memory) : State := { s with mem := s.mem.set sp v }

/-- Replacing `ROZCTRL[k]`. -/
def State.setRozctrl (s : State) (k : Fin 32) (v : Word) : State := { s with rozctrl := s.rozctrl.set k v }

/-- Replacing a layer control register. -/
def State.setLayer (s : State) (k : LayerReg) (v : Word) : State := { s with layer := s.layer.set k v }

/-- Replacing a CRTC register. -/
def State.setCrtc (s : State) (k : CrtcReg) (v : Half) : State := { s with crtc := s.crtc.set k v }

/-- Replacing a brightness register. -/
def State.setBrt (s : State) (b : Bank) (r : BrtReg) (v : Half) : State := { s with brt := s.brt.set b r v }

/-- Replacing the three scales. -/
def State.setScales (s : State) (v : Scales) : State := { s with scales := v }

/-- Setting both flip bits of every layer to one value (R131). -/
def State.setFlips (s : State) (v : Bool) : State := { s with flipX := LayerBits.all v, flipY := LayerBits.all v }

/-- Replacing the geometry outputs and the refresh rate (R129). -/
def State.setGeometry (s : State) (g : Geometry) (r : Rat) : State := { s with geom := g, refresh := r }

/-- Appending one record to the diagnostic log (R36, R175). -/
def State.appendDiag (s : State) (d : Diag) : State := { s with diagLog := s.diagLog ++ [d] }

/-- What a `RENDER` leaves of the block: the palette it computed, the scratch buffers, the bitmap, the diagnostics and the
status (R143). -/
def State.setFrame (s : State) (p : PalLatch) (sc : Scratch) (out : Plane Rgb) (log : List Diag) (n : Nat) : State :=
  { s with palLatch := p, scratch := sc, out := out, diagLog := log, unhandledCount := n, renderStatus := some .ok }

/-! ## The operation stream (R4, R19, R49; log 1) -/

/-- The next operation word of the stream and the state with it taken; nothing when none is delivered (log 2). -/
def fetch (s : State) : Option (OpWord × State) :=
  match s.stream with
  | [] => none
  | w :: rest => some (w, s.setStream rest)

/-- The environment delivers more operation words, behind those already delivered (R49, R204). -/
def deliver (s : State) (ws : List OpWord) : State := s.setStream (s.stream ++ ws)

/-- An operation word of `nbits` bits placed where the next operation is taken from. -/
def placeWord (s : State) (nbits w : Nat) : State := s.setStream (BitVec.ofNat 64 (w % 2 ^ min nbits 64) :: s.stream)

/-- The observation of a run (R204), and what the host may read between operations (R191). -/
structure Observation where
  out : Plane Rgb
  diagLog : List Diag
  unhandledCount : Nat
  geom : Geometry
  refresh : Rat
  deriving DecidableEq, Repr

/-- The observation of a state (R204). -/
def observe (s : State) : Observation := ⟨s.out, s.diagLog, s.unhandledCount, s.geom, s.refresh⟩

end Sys2Proof.Machine
end

