-- ==== Sys2Proof/Machine/Flags.lean ====
section
/-! DEFINITION. The status state. The block has no condition codes (R20): its status is the diagnostic log and the count of unhandled
pixels. Raising a diagnostic never stops an operation (R15, R174), and the storage write and the register merges that may raise
one stand here (R43, R44, R96, R176 to R178, R181). -/

namespace Sys2Proof.Machine

open Sys2Proof.Config

/-- The value of a record's code (R175). -/
def Diag.code : Diag → Nat
  | .badOp _ => 1
  | .unknownReg _ _ _ => 2
  | .offsetRange _ _ => 3
  | .geometryClamp _ _ _ _ => 4
  | .porch _ _ => 5
  | .unhandledMask _ _ _ _ => 6

/-- The severity of a record (R175). -/
def Diag.severity : Diag → Severity
  | .badOp _ => .warning
  | .unknownReg _ _ _ => .warning
  | .offsetRange _ _ => .warning
  | .geometryClamp _ _ _ _ => .warning
  | .porch _ _ => .info
  | .unhandledMask _ _ _ _ => .warning

/-- `raise Diag(code, info)` (R15, R175). -/
def raise (d : Diag) (s : State) : State := s.appendDiag d

/-- A word that is no operation: logged, whatever its `LANES` (R176). -/
def badOp (w : OpWord) (s : State) : State := raise (.badOp w) s

/-- A write to a register offset that no register has: logged unless `LANES = 0` (R177, R181). -/
def unknownReg (comp : BitVec 4) (off : Offset) (data : Word) (lanes : Lanes) (s : State) : State :=
  if lanes = 0 then s else raise (.unknownReg comp off data) s

/-- `MemWrite(S, i, v, m)` (R43), for the component `comp` that the write names (R178; log 9). -/
def memWrite (c : Cfg) (sp : Space) (comp : BitVec 4) (off : Offset) (data : Word) (lanes : Lanes) (s : State) : State :=
  if lanes = 0 then s
  else if spaceSize c sp ≤ off.toNat then raise (.offsetRange comp off) s
  else
    s.setMem sp (writeWord (resetByte c sp) (s.mem.get sp) off.toNat
      (mergeLanes (wordAt c s.mem sp off.toNat) data lanes))

/-- A write to a 32-bit layer control register (R44, R74, R81). -/
def layerWrite (k : LayerReg) (data : Word) (lanes : Lanes) (s : State) : State :=
  s.setLayer k (mergeLanes (s.layer.get k) data lanes)

/-- A write to `ROZCTRL[k]` (R96). -/
def rozWrite (k : Fin 32) (data : Word) (lanes : Lanes) (s : State) : State :=
  s.setRozctrl k (mergeLanes s.rozctrl[k] data lanes)

end Sys2Proof.Machine
end

