-- ==== Sys2Proof/Machine/Crtc.lean ====
section
/-! DEFINITION. The CRTC timing unit (43_crtc.md): the widths, the geometry recomputation, the flip propagation and the register
writes. -/

namespace Sys2Proof.Machine

open Sys2Proof.Config

/-- The selected pixel clock, `PIXCLK[CRTC_CTRL[1]]` (R130). -/
def pixelClock (c : Cfg) (r : CrtcRegs) : Rat := if r.ctrl.getLsbD 1 then c.pixclk1 else c.pixclk0

/-- A clock rate over a total of pixels, as an exact rational (R130). -/
def refreshOf (clock : Rat) (g : Geometry) : Rat := mkRat clock.num (clock.den * (g.hTotal * g.vTotal))

/-- The geometry of the width registers: display widths at least 1, blank widths at least 0, totals blank plus display (R129). -/
def crtcGeometry (r : CrtcRegs) : Geometry :=
  let hb := (max (crtcWidth r.hblank) 0).toNat
  let hd := (max (crtcWidth r.hdisp) 1).toNat
  let vb := (max (crtcWidth r.vblank) 0).toNat
  let vd := (max (crtcWidth r.vdisp) 1).toNat
  ⟨hd, vd, hb + hd, vb + vd⟩

/-- Whether a width is out of bounds (R129, R179). -/
def crtcMalformed (r : CrtcRegs) : Bool :=
  decide (crtcWidth r.hdisp < 1) || decide (crtcWidth r.vdisp < 1) || decide (crtcWidth r.hblank < 0) ||
    decide (crtcWidth r.vblank < 0)

/-- `recompute()` (R129, R130, R179). -/
def recompute (c : Cfg) (s : State) : State :=
  let g := crtcGeometry s.crtc
  let s' := s.setGeometry g (refreshOf (pixelClock c s.crtc) g)
  if crtcMalformed s.crtc then
    raise (.geometryClamp (crtcWidth s.crtc.hblank) (crtcWidth s.crtc.hdisp) (crtcWidth s.crtc.vblank)
      (crtcWidth s.crtc.vdisp)) s'
  else s'

/-- Flip propagation: both flip bits of every layer take `CRTC_CTRL[0]` (R131). -/
def propagateFlip (s : State) : State := s.setFlips (s.crtc.ctrl.getLsbD 0)

/-- What a write to a CRTC register does once the register holds its new value (R132). -/
def crtcEffect (c : Cfg) (k : CrtcReg) (s : State) : State :=
  match k with
  | .ctrl => recompute c (propagateFlip s)
  | .hblank => recompute c s
  | .hdisp => recompute c s
  | .vblank => recompute c s
  | .vdisp => recompute c s
  | .porchBack => raise (.porch 5 s.crtc.porchBack) s
  | .porchFront => raise (.porch 6 s.crtc.porchFront) s

/-- A write to a CRTC register (R132). -/
def crtcWrite (c : Cfg) (k : CrtcReg) (data : Word) (lanes : Lanes) (s : State) : State :=
  let m := lanes16 lanes
  if m = 0 then s else crtcEffect c k (s.setCrtc k (mergeLanes16 (s.crtc.get k) data m))

/-! ## Operations -/

/-- `WR_CRTC_CTRL` (R133). -/
def execWrCrtcCtrl (data : Word) (lanes : Lanes) (s : State) : Host.Outcome State Fault Refusal :=
  .next (crtcWrite cfg .ctrl data lanes s)

/-- `WR_CRTC_HBLANK` (R134). -/
def execWrCrtcHblank (data : Word) (lanes : Lanes) (s : State) : Host.Outcome State Fault Refusal :=
  .next (crtcWrite cfg .hblank data lanes s)

/-- `WR_CRTC_HDISP` (R135). -/
def execWrCrtcHdisp (data : Word) (lanes : Lanes) (s : State) : Host.Outcome State Fault Refusal :=
  .next (crtcWrite cfg .hdisp data lanes s)

/-- `WR_CRTC_VBLANK` (R136). -/
def execWrCrtcVblank (data : Word) (lanes : Lanes) (s : State) : Host.Outcome State Fault Refusal :=
  .next (crtcWrite cfg .vblank data lanes s)

/-- `WR_CRTC_VDISP` (R137). -/
def execWrCrtcVdisp (data : Word) (lanes : Lanes) (s : State) : Host.Outcome State Fault Refusal :=
  .next (crtcWrite cfg .vdisp data lanes s)

/-- `WR_CRTC_PORCH_BACK` (R138). -/
def execWrCrtcPorchBack (data : Word) (lanes : Lanes) (s : State) : Host.Outcome State Fault Refusal :=
  .next (crtcWrite cfg .porchBack data lanes s)

/-- `WR_CRTC_PORCH_FRONT` (R139). -/
def execWrCrtcPorchFront (data : Word) (lanes : Lanes) (s : State) : Host.Outcome State Fault Refusal :=
  .next (crtcWrite cfg .porchFront data lanes s)

/-- `WR_CRTC_UNKNOWN` (R140). -/
def execWrCrtcUnknown (off : Offset) (data : Word) (lanes : Lanes) (s : State) : Host.Outcome State Fault Refusal :=
  .next (unknownReg 9 off data lanes s)

end Sys2Proof.Machine
end

