-- ==== Sys2Proof/Machine/Palette.lean ====
section
/-! DEFINITION. The palette converter and the brightness registers (45_palette.md). -/

namespace Sys2Proof.Machine

open Sys2Proof.Config

/-- Bits [15:0] of a word of the palette table that `PAL_RGB` was computed from (R155, R40). -/
def palWord (c : Cfg) (p : PalLatch) (i : Nat) : Half :=
  lowHalf (readWord (resetByte c .palram) p.ram (i % spaceSize c .palram))

/-- An entry's channels before scaling (R155). -/
def rawRgb (c : Cfg) (p : PalLatch) (i : Nat) : Rgb :=
  ⟨highByte (palWord c p (2 * i)), lowByte (palWord c p (2 * i)), lowByte (palWord c p (2 * i + 1))⟩

/-- `convert(i)`: bit 14 of the index decides whether the channels are scaled (R155, R156). -/
def convert (c : Cfg) (p : PalLatch) (i : Nat) : Rgb :=
  let raw := rawRgb c p i
  if i.testBit 14 then raw
  else ⟨scaleChannel raw.r p.scales.r, scaleChannel raw.g p.scales.g, scaleChannel raw.b p.scales.b⟩

/-- `PAL_RGB[p mod PAL_ENTRIES]` for a 16-bit palette index (R150, R156). -/
def palRgb (c : Cfg) (p : PalLatch) (idx : Half) : Rgb := convert c p (idx.toNat % c.palEntries)

/-- What the next `RENDER` computes the whole palette from (R157; log 10). -/
def latchPalette (s : State) : PalLatch := ⟨s.mem.palram, s.scales⟩

/-- The scales that bank `b` gives (R30, R159). -/
def scalesOf (t : BrtRegs) (b : Bank) : Scales :=
  ⟨brightScale (highByte (t.get b .r0)), brightScale (lowByte (t.get b .r0)), brightScale (lowByte (t.get b .r1))⟩

/-- A brightness write: the scales are recomputed only when a register of `BRIGHT_BANK` changes (R159). -/
def brightWrite (c : Cfg) (b : Bank) (r : BrtReg) (data : Word) (lanes : Lanes) (s : State) : State :=
  let m := lanes16 lanes
  if m = 0 then s
  else
    let old := s.brt.get b r
    let new := mergeLanes16 old data m
    let s' := s.setBrt b r new
    if b = c.brightBank ∧ new ≠ old then s'.setScales (scalesOf s'.brt b) else s'

/-! ## Operations -/

/-- `WR_PALRAM` (R160). -/
def execWrPalram (off : Offset) (data : Word) (lanes : Lanes) (s : State) : Host.Outcome State Fault Refusal :=
  .next (memWrite cfg .palram 6 off data lanes s)

/-- `WR_BRIGHT_B0R0` (R161). -/
def execWrBrightB0r0 (data : Word) (lanes : Lanes) (s : State) : Host.Outcome State Fault Refusal :=
  .next (brightWrite cfg .b0 .r0 data lanes s)

/-- `WR_BRIGHT_B0R1` (R162). -/
def execWrBrightB0r1 (data : Word) (lanes : Lanes) (s : State) : Host.Outcome State Fault Refusal :=
  .next (brightWrite cfg .b0 .r1 data lanes s)

/-- `WR_BRIGHT_B1R0` (R163). -/
def execWrBrightB1r0 (data : Word) (lanes : Lanes) (s : State) : Host.Outcome State Fault Refusal :=
  .next (brightWrite cfg .b1 .r0 data lanes s)

/-- `WR_BRIGHT_B1R1` (R164). -/
def execWrBrightB1r1 (data : Word) (lanes : Lanes) (s : State) : Host.Outcome State Fault Refusal :=
  .next (brightWrite cfg .b1 .r1 data lanes s)

/-- `WR_BRIGHT_UNKNOWN` (R165). -/
def execWrBrightUnknown (off : Offset) (data : Word) (lanes : Lanes) (s : State) : Host.Outcome State Fault Refusal :=
  .next (unknownReg 10 off data lanes s)

end Sys2Proof.Machine
end

