-- ==== Sys2Proof/Machine/Tilemap.lean ====
section
/-! DEFINITION. Tilemap layers (40_tilemap.md): the cell decode, the TX/BG/BGALT rasterizer, and the operations that write the
attribute tables, the scroll registers and the layout register. -/

namespace Sys2Proof.Machine

open Sys2Proof.Config

/-! ## Planes and cells -/

/-- `PW_L`, the plane width in pixels (R67). -/
def planeW (c : Cfg) (L : Layer) : Nat := c.cols L * c.tw L

/-- `PH_L`, the plane height in pixels (R67). -/
def planeH (c : Cfg) (L : Layer) : Nat := c.rows L * c.th L

/-- The tile index and the colour of a cell (R69). -/
def cellAttr (c : Cfg) (m : Storage) (L : Layer) (cell : Nat) : Half × Nat :=
  let even := memRead c m (tableSpace c L) (2 * cell)
  let odd := memRead c m (tableSpace c L) (2 * cell + 1)
  (lowHalf even, (odd.extractLsb' 0 4).toNat + c.colorBank L)

/-- The cell that holds a plane pixel (R84, R94). -/
def cellOf (c : Cfg) (L : Layer) (u v : Nat) : Nat := v / c.th L * c.cols L + u / c.tw L

/-- The pen and the palette index of a plane pixel (R85, R94). -/
def samplePlane (c : Cfg) (m : Storage) (L : Layer) (u v : Nat) : GfxPixel :=
  let attr := cellAttr c m L (cellOf c L u v)
  c.tileGfx L attr.1 attr.2 (u % c.tw L) (v % c.th L)

/-! ## Scratch pixels -/

/-- Where the pixel `(x, y)` stands in a buffer of the size of the bitmap (R34, R37). -/
def pixelKey (c : Cfg) (x y : Nat) : Nat := y * c.outW + x

/-- The pixels of a clip, rows top to bottom, each row left to right (R15, R144). -/
def clipPixels (k : Clip) : List (Nat × Nat) :=
  (List.range' k.miny (k.maxy + 1 - k.miny)).flatMap fun y =>
    (List.range' k.minx (k.maxx + 1 - k.minx)).map fun x => (x, y)

/-- What a pixel of `TILE_COLOR` that nothing has written reads as (R38). -/
def tileColor0 (c : Cfg) (a : Nat) : Half := profiled c (c.draws.tileColor a) 0

/-- What a pixel of `TILE_TAG` that nothing has written reads as (R38). -/
def tileTag0 (c : Cfg) (a : Nat) : BitVec 3 := profiled c (c.draws.tileTag a) 0

/-- `TILE_COLOR[y][x]` (R34). -/
def tileColorAt (c : Cfg) (sc : Scratch) (x y : Nat) : Half := cellRead (tileColor0 c) sc.tileColor (pixelKey c x y)

/-- `TILE_TAG[y][x]` (R34). -/
def tileTagAt (c : Cfg) (sc : Scratch) (x y : Nat) : BitVec 3 := cellRead (tileTag0 c) sc.tileTag (pixelKey c x y)

/-- Writing `TILE_COLOR[y][x]` and `TILE_TAG[y][x]` (R85, R95). -/
def stampTile (c : Cfg) (x y : Nat) (palidx : Half) (tag : BitVec 3) (sc : Scratch) : Scratch :=
  { sc with
    tileColor := cellWrite (tileColor0 c) sc.tileColor (pixelKey c x y) palidx
    tileTag := cellWrite (tileTag0 c) sc.tileTag (pixelKey c x y) tag }

/-- One pixel of a layer's draw: an opaque pixel is stamped, a transparent one leaves both buffers as they were (R85, R95). -/
def drawPixel (c : Cfg) (m : Storage) (L : Layer) (tag : BitVec 3) (coord : Nat → Nat → Nat × Nat) (sc : Scratch)
    (p : Nat × Nat) : Scratch :=
  let uv := coord p.1 p.2
  let g := samplePlane c m L uv.1 uv.2
  if g.1 = c.transpen L then sc else stampTile c p.1 p.2 g.2 tag sc

/-- The draw of a layer over a clip, for the source coordinates `coord` (R85, R95). -/
def drawPlane (c : Cfg) (m : Storage) (L : Layer) (tag : BitVec 3) (coord : Nat → Nat → Nat × Nat) (k : Clip)
    (sc : Scratch) : Scratch :=
  (clipPixels k).foldl (drawPixel c m L tag coord) sc

/-! ## The TX/BG/BGALT rasterizer -/

/-- The layer of a scrolling layer. -/
def scrollLayer : ScrollLayer → Layer
  | .tx => .tx
  | .bg => .bg
  | .bgalt => .bgalt

/-- `SCROLLX_L` (R28). -/
def scrollX (r : LayerRegs) : ScrollLayer → Word
  | .tx => r.txScrollX
  | .bg => r.bgScrollX
  | .bgalt => r.bgaltScrollX

/-- `SCROLLY_L` (R28). -/
def scrollY (r : LayerRegs) : ScrollLayer → Word
  | .tx => r.txScrollY
  | .bg => r.bgScrollY
  | .bgalt => r.bgaltScrollY

/-- A coordinate mirrored across the visible extent when the flip bit is set (R83, R91); it may be negative. -/
def mirror (flip : Bool) (extent x : Nat) : Int := if flip then (extent : Int) - 1 - x else x

/-- The source coordinate of a destination pixel (R83, R84). -/
def scrollCoord (c : Cfg) (s : State) (L : ScrollLayer) (x y : Nat) : Nat × Nat :=
  let lay := scrollLayer L
  (wrap (mirror (s.flipX.get lay) s.geom.visW x + ((scrollX s.layer L).toNat : Int)) (planeW c lay),
   wrap (mirror (s.flipY.get lay) s.geom.visH y + ((scrollY s.layer L).toNat : Int)) (planeH c lay))

/-- `draw(L, tag, clip)` for TX, BG and BGALT (R85). -/
def drawScroll (c : Cfg) (s : State) (L : ScrollLayer) (tag : BitVec 3) (k : Clip) (sc : Scratch) : Scratch :=
  drawPlane c s.mem (scrollLayer L) tag (scrollCoord c s L) k sc

/-- The layer that fills the background slot (R86). -/
def backgroundLayer (r : LayerRegs) : ScrollLayer := if r.bgLayout.getLsbD 0 then .bgalt else .bg

/-! ## Operations -/

/-- `WR_TXRAM` (R70). -/
def execWrTxram (off : Offset) (data : Word) (lanes : Lanes) (s : State) : Host.Outcome State Fault Refusal :=
  .next (memWrite cfg .txram 0 off data lanes s)

/-- `WR_BGRAM` (R71). -/
def execWrBgram (off : Offset) (data : Word) (lanes : Lanes) (s : State) : Host.Outcome State Fault Refusal :=
  .next (memWrite cfg .bgram 1 off data lanes s)

/-- `WR_BGALTRAM` (R72): `BGRAM` is written under `SHARED`; the record names component 2 there too (log 9). -/
def execWrBgaltram (off : Offset) (data : Word) (lanes : Lanes) (s : State) : Host.Outcome State Fault Refusal :=
  .next (memWrite cfg (tableSpace cfg .bgalt) 2 off data lanes s)

/-- `WR_ROZRAM` (R73). -/
def execWrRozram (off : Offset) (data : Word) (lanes : Lanes) (s : State) : Host.Outcome State Fault Refusal :=
  .next (memWrite cfg .rozram 3 off data lanes s)

/-- `WR_LAYER_TX_SCROLLX` (R75). -/
def execWrLayerTxScrollx (data : Word) (lanes : Lanes) (s : State) : Host.Outcome State Fault Refusal :=
  .next (layerWrite .txScrollX data lanes s)

/-- `WR_LAYER_TX_SCROLLY` (R76). -/
def execWrLayerTxScrolly (data : Word) (lanes : Lanes) (s : State) : Host.Outcome State Fault Refusal :=
  .next (layerWrite .txScrollY data lanes s)

/-- `WR_LAYER_BG_SCROLLX` (R77). -/
def execWrLayerBgScrollx (data : Word) (lanes : Lanes) (s : State) : Host.Outcome State Fault Refusal :=
  .next (layerWrite .bgScrollX data lanes s)

/-- `WR_LAYER_BG_SCROLLY` (R78). -/
def execWrLayerBgScrolly (data : Word) (lanes : Lanes) (s : State) : Host.Outcome State Fault Refusal :=
  .next (layerWrite .bgScrollY data lanes s)

/-- `WR_LAYER_BGALT_SCROLLX` (R79). -/
def execWrLayerBgaltScrollx (data : Word) (lanes : Lanes) (s : State) : Host.Outcome State Fault Refusal :=
  .next (layerWrite .bgaltScrollX data lanes s)

/-- `WR_LAYER_BGALT_SCROLLY` (R80). -/
def execWrLayerBgaltScrolly (data : Word) (lanes : Lanes) (s : State) : Host.Outcome State Fault Refusal :=
  .next (layerWrite .bgaltScrollY data lanes s)

/-- `WR_LAYER_BG_LAYOUT` (R81). -/
def execWrLayerBgLayout (data : Word) (lanes : Lanes) (s : State) : Host.Outcome State Fault Refusal :=
  .next (layerWrite .bgLayout data lanes s)

/-- `WR_LAYER_UNKNOWN` (R82). -/
def execWrLayerUnknown (off : Offset) (data : Word) (lanes : Lanes) (s : State) : Host.Outcome State Fault Refusal :=
  .next (unknownReg 11 off data lanes s)

end Sys2Proof.Machine
end

