-- ==== Sys2Proof/Machine/Roz.lean ====
section
/-! DEFINITION. The ROZ transform engine (41_roz.md): the decoded fields, the two addressing modes, and the operations that write the
control register file and the line table. -/

namespace Sys2Proof.Machine

open Sys2Proof.Config

/-! ## Decoded fields (R88, R89) -/

/-- `STARTX` (R88). -/
def rozStartX (r : Vector Word 32) : Int := field18 r[0] r[1]

/-- `STARTY` (R88). -/
def rozStartY (r : Vector Word 32) : Int := field18 r[2] r[3]

/-- `INCXX` (R88). -/
def rozIncXX (r : Vector Word 32) : Int := field18 r[4] r[5]

/-- `INCXY` (R88). -/
def rozIncXY (r : Vector Word 32) : Int := field18 r[6] r[7]

/-- `INCYY` (R88). -/
def rozIncYY (r : Vector Word 32) : Int := field18 r[8] r[9]

/-- `INCYX` (R88). -/
def rozIncYX (r : Vector Word 32) : Int := field18 r[10] r[11]

/-- `SUPER` (R88). -/
def rozSuper (r : Vector Word 32) : Bool := r[23].getLsbD 0

/-- An effective offset: the register, and the bias when the select bit is set (R89). -/
def biased (c : Cfg) (off sel : Word) : Int := off.toNat + (if sel.getLsbD 0 then (c.rozOffsetBias : Int) else 0)

/-- `OFFX_E` (R89). -/
def rozOffX (c : Cfg) (r : Vector Word 32) : Int := biased c r[12] r[14]

/-- `OFFY_E` (R89). -/
def rozOffY (c : Cfg) (r : Vector Word 32) : Int := biased c r[13] r[15]

/-! ## Coordinates -/

/-- The transform's input for a destination pixel (R91): mirrored under `SCREEN_MIRROR` only. -/
def rozInput (c : Cfg) (s : State) (x y : Nat) : Int × Int :=
  match c.rozFlipMode with
  | .screenMirror => (mirror s.flipX.roz s.geom.visW x, mirror s.flipY.roz s.geom.visH y)
  | .planeMirror => (x, y)
  | .none => (x, y)

/-- The unwrapped source coordinates `UF`, `VF` of simple mode (R92). -/
def rozSimple (c : Cfg) (r : Vector Word 32) (xd yd : Int) : Int × Int :=
  let one : Int := ((2 ^ c.rozFracBits : Nat) : Int)
  ((rozStartX r + rozOffX c r) * one + xd * rozIncXX r + yd * rozIncYX r,
   (rozStartY r + rozOffY c r) * one + xd * rozIncXY r + yd * rozIncYY r)

/-- A field of line-table entry `n`, its low word at `8n + j` and its high word at `8n + j + 1` (R93). -/
def lineField (c : Cfg) (m : Storage) (n j : Nat) : Int :=
  field18 (memRead c m .lineram (8 * n + j)) (memRead c m .lineram (8 * n + (j + 1)))

/-- The unwrapped source coordinates `UF`, `VF` of super mode (R93). -/
def rozLine (c : Cfg) (m : Storage) (r : Vector Word 32) (xd yd : Int) : Int × Int :=
  let one : Int := ((2 ^ c.rozFracBits : Nat) : Int)
  let n := wrap yd 256
  ((lineField c m n 0 + rozStartX r + rozOffX c r) * one + xd * lineField c m n 4,
   (lineField c m n 2 + rozStartY r + rozOffY c r) * one + xd * lineField c m n 6)

/-- A plane coordinate mirrored across the plane under `PLANE_MIRROR` (R91). -/
def planeMirrored (c : Cfg) (flip : Bool) (extent u : Nat) : Nat :=
  match c.rozFlipMode with
  | .planeMirror => if flip then extent - 1 - u else u
  | .screenMirror => u
  | .none => u

/-- The source pixel of a destination pixel (R91, R92, R93). -/
def rozCoord (c : Cfg) (s : State) (x y : Nat) : Nat × Nat :=
  let d := rozInput c s x y
  let f := if rozSuper s.rozctrl then rozLine c s.mem s.rozctrl d.1 d.2 else rozSimple c s.rozctrl d.1 d.2
  (planeMirrored c s.flipX.roz (planeW c .roz) (wrap (floorFrac f.1 c.rozFracBits) (planeW c .roz)),
   planeMirrored c s.flipY.roz (planeH c .roz) (wrap (floorFrac f.2 c.rozFracBits) (planeH c .roz)))

/-- `render(target, clip, priority_tag)` of the ROZ layer (R95). -/
def drawRoz (c : Cfg) (s : State) (tag : BitVec 3) (k : Clip) (sc : Scratch) : Scratch :=
  drawPlane c s.mem .roz tag (rozCoord c s) k sc

/-! ## Operations -/

/-- `WR_ROZCTRL_STARTX_LO` (R97). -/
def execWrRozctrlStartxLo (data : Word) (lanes : Lanes) (s : State) : Host.Outcome State Fault Refusal :=
  .next (rozWrite 0 data lanes s)

/-- `WR_ROZCTRL_STARTX_HI` (R98). -/
def execWrRozctrlStartxHi (data : Word) (lanes : Lanes) (s : State) : Host.Outcome State Fault Refusal :=
  .next (rozWrite 1 data lanes s)

/-- `WR_ROZCTRL_STARTY_LO` (R99). -/
def execWrRozctrlStartyLo (data : Word) (lanes : Lanes) (s : State) : Host.Outcome State Fault Refusal :=
  .next (rozWrite 2 data lanes s)

/-- `WR_ROZCTRL_STARTY_HI` (R100). -/
def execWrRozctrlStartyHi (data : Word) (lanes : Lanes) (s : State) : Host.Outcome State Fault Refusal :=
  .next (rozWrite 3 data lanes s)

/-- `WR_ROZCTRL_INCXX_LO` (R101). -/
def execWrRozctrlIncxxLo (data : Word) (lanes : Lanes) (s : State) : Host.Outcome State Fault Refusal :=
  .next (rozWrite 4 data lanes s)

/-- `WR_ROZCTRL_INCXX_HI` (R102). -/
def execWrRozctrlIncxxHi (data : Word) (lanes : Lanes) (s : State) : Host.Outcome State Fault Refusal :=
  .next (rozWrite 5 data lanes s)

/-- `WR_ROZCTRL_INCXY_LO` (R103). -/
def execWrRozctrlIncxyLo (data : Word) (lanes : Lanes) (s : State) : Host.Outcome State Fault Refusal :=
  .next (rozWrite 6 data lanes s)

/-- `WR_ROZCTRL_INCXY_HI` (R104). -/
def execWrRozctrlIncxyHi (data : Word) (lanes : Lanes) (s : State) : Host.Outcome State Fault Refusal :=
  .next (rozWrite 7 data lanes s)

/-- `WR_ROZCTRL_INCYY_LO` (R105). -/
def execWrRozctrlIncyyLo (data : Word) (lanes : Lanes) (s : State) : Host.Outcome State Fault Refusal :=
  .next (rozWrite 8 data lanes s)

/-- `WR_ROZCTRL_INCYY_HI` (R106). -/
def execWrRozctrlIncyyHi (data : Word) (lanes : Lanes) (s : State) : Host.Outcome State Fault Refusal :=
  .next (rozWrite 9 data lanes s)

/-- `WR_ROZCTRL_INCYX_LO` (R107). -/
def execWrRozctrlIncyxLo (data : Word) (lanes : Lanes) (s : State) : Host.Outcome State Fault Refusal :=
  .next (rozWrite 10 data lanes s)

/-- `WR_ROZCTRL_INCYX_HI` (R108). -/
def execWrRozctrlIncyxHi (data : Word) (lanes : Lanes) (s : State) : Host.Outcome State Fault Refusal :=
  .next (rozWrite 11 data lanes s)

/-- `WR_ROZCTRL_OFFX` (R109). -/
def execWrRozctrlOffx (data : Word) (lanes : Lanes) (s : State) : Host.Outcome State Fault Refusal :=
  .next (rozWrite 12 data lanes s)

/-- `WR_ROZCTRL_OFFY` (R110). -/
def execWrRozctrlOffy (data : Word) (lanes : Lanes) (s : State) : Host.Outcome State Fault Refusal :=
  .next (rozWrite 13 data lanes s)

/-- `WR_ROZCTRL_OFFSELX` (R111). -/
def execWrRozctrlOffselx (data : Word) (lanes : Lanes) (s : State) : Host.Outcome State Fault Refusal :=
  .next (rozWrite 14 data lanes s)

/-- `WR_ROZCTRL_OFFSELY` (R112). -/
def execWrRozctrlOffsely (data : Word) (lanes : Lanes) (s : State) : Host.Outcome State Fault Refusal :=
  .next (rozWrite 15 data lanes s)

/-- `WR_ROZCTRL_MODE` (R113). -/
def execWrRozctrlMode (data : Word) (lanes : Lanes) (s : State) : Host.Outcome State Fault Refusal :=
  .next (rozWrite 23 data lanes s)

/-- `WR_ROZCTRL_SPARE` (R114): offset `16 + k`, stored and never read. -/
def execWrRozctrlSpare (k : BitVec 4) (data : Word) (lanes : Lanes) (s : State) : Host.Outcome State Fault Refusal :=
  .next (rozWrite (Fin.ofNat 32 (16 + k.toNat)) data lanes s)

/-- `WR_ROZCTRL_UNKNOWN` (R115). -/
def execWrRozctrlUnknown (off : Offset) (data : Word) (lanes : Lanes) (s : State) : Host.Outcome State Fault Refusal :=
  .next (unknownReg 8 off data lanes s)

/-- `WR_LINERAM` (R116). -/
def execWrLineram (off : Offset) (data : Word) (lanes : Lanes) (s : State) : Host.Outcome State Fault Refusal :=
  .next (memWrite cfg .lineram 4 off data lanes s)

end Sys2Proof.Machine
end

