-- ==== Sys2Proof/Machine/Sprites.lean ====
section
/-! DEFINITION. The sprite compositor (42_sprites.md): the latch at vertical blank, the list walk and the buffer write. -/

namespace Sys2Proof.Machine

open Sys2Proof.Config

/-! ## The list -/

/-- `SPR_DISP[i] <- SPR_LIVE[i]` for one word (R118). -/
def copySpriteWord (c : Cfg) (live : Memory) (disp : Memory) (i : Nat) : Memory :=
  writeWord (resetByte c .sprDisp) disp i (readWord (resetByte c .sprLive) live i)

/-- `SPR_DISP` after a vertical blank: a copy of `SPR_LIVE` (R118). -/
def copySprites (c : Cfg) (m : Storage) : Memory :=
  (List.range (spaceSize c .sprLive)).foldl (copySpriteWord c m.sprLive) m.sprDisp

/-- The vertical blank (R118). -/
def latchSprites (c : Cfg) (s : State) : State := s.setMem .sprDisp (copySprites c s.mem)

/-- Entry `e` of the display buffer, bits [15:0] of its eight words given to `SPR_LAYOUT` (R120). -/
def spriteEntry (c : Cfg) (m : Storage) (e : Nat) : SpriteEntry :=
  c.sprLayout fun j => lowHalf (memRead c m .sprDisp (8 * e + j.val))

/-- An entry that contributes nothing (R122). -/
def spriteSkipped (e : SpriteEntry) : Bool := e.disable || e.xzoom == 0 || e.yzoom == 0

/-- The entries in walk order (R125). -/
def spriteOrder (c : Cfg) : List Nat :=
  match c.sprOrder with
  | .ascending => List.range c.sprEntries
  | .descending => (List.range c.sprEntries).reverse

/-! ## The sprite scratch buffers -/

/-- What a pixel of `SPR_COLOR` that nothing has written reads as (R38). -/
def sprColor0 (c : Cfg) (a : Nat) : Half := profiled c (c.draws.sprColor a) 0

/-- What a pixel of `SPR_PRI` that nothing has written reads as, a value of `SPR_PRI_BITS` bits (R34, R38). -/
def sprPri0 (c : Cfg) (a : Nat) : Nat := profiled c (c.draws.sprPri a % 2 ^ c.sprPriBits) 0

/-- `SPR_COLOR[y][x]` (R34). -/
def sprColorAt (c : Cfg) (sc : Scratch) (x y : Nat) : Half := cellRead (sprColor0 c) sc.sprColor (pixelKey c x y)

/-- `SPR_PRI[y][x]` (R34). -/
def sprPriAt (c : Cfg) (sc : Scratch) (x y : Nat) : Nat := cellRead (sprPri0 c) sc.sprPri (pixelKey c x y)

/-- `SPR_PACKED = (SPR_PRI << 16) | SPR_COLOR` (R126). -/
def sprPackedAt (c : Cfg) (sc : Scratch) (x y : Nat) : Nat := sprPriAt c sc x y * 65536 + (sprColorAt c sc x y).toNat

/-- Writing `SPR_COLOR[y][x]` and `SPR_PRI[y][x]` (R125). -/
def stampSprite (c : Cfg) (x y : Nat) (palidx : Half) (pri : Nat) (sc : Scratch) : Scratch :=
  { sc with
    sprColor := cellWrite (sprColor0 c) sc.sprColor (pixelKey c x y) palidx
    sprPri := cellWrite (sprPri0 c) sc.sprPri (pixelKey c x y) (pri % 2 ^ c.sprPriBits) }

/-- One sprite into the scratch buffers (R122, R125). -/
def drawSprite (c : Cfg) (m : Storage) (k : Clip) (sc : Scratch) (e : Nat) : Scratch :=
  let entry := spriteEntry c m e
  if spriteSkipped entry then sc
  else (c.sprBlit c.sprGfx entry k).foldl (fun sc p => stampSprite c p.x p.y p.palidx entry.pri sc) sc

/-- The sprite compositor: a later sprite of the walk overwrites an earlier one (R125). -/
def drawSprites (c : Cfg) (m : Storage) (k : Clip) (sc : Scratch) : Scratch :=
  (spriteOrder c).foldl (drawSprite c m k) sc

/-! ## Operations -/

/-- `WR_SPRRAM` (R117). -/
def execWrSprram (off : Offset) (data : Word) (lanes : Lanes) (s : State) : Host.Outcome State Fault Refusal :=
  .next (memWrite cfg .sprLive 5 off data lanes s)

/-- `VBLANK` (R118). -/
def execVblank (s : State) : Host.Outcome State Fault Refusal :=
  .next (latchSprites cfg s)

end Sys2Proof.Machine
end

