-- ==== Sys2Proof/Machine/Mixer.lean ====
section
/-! DEFINITION. The priority mixer and the frame render (44_mixer.md): slot resolution, the draw order, the per-pixel mask and rule,
and `RENDER`. -/

namespace Sys2Proof.Machine

open Sys2Proof.Config

/-! ## Slots (R146, R147) -/

/-- The three slot counters (R146). -/
structure Slots where
  asc : Nat
  scrl : Nat
  rot : Nat
  deriving DecidableEq, Repr

/-- One more for a counter (R146). -/
def bump (t : Slots) : Counter → Slots
  | .asc => { t with asc := t.asc + 1 }
  | .scrl => { t with scrl := t.scrl + 1 }
  | .rot => { t with rot := t.rot + 1 }

/-- Bits [15:0] of a word of priority memory (R26, R40). -/
def priHalf (c : Cfg) (m : Storage) (i : Nat) : Half := lowHalf (memRead c m .priram i)

/-- Whether a check hits (R146). -/
def slotHit (c : Cfg) (m : Storage) (k : SlotCheck) : Bool := (priHalf c m k.cell &&& k.cmpmask) == k.sentinel

/-- One check of the program (R146). -/
def runCheck (c : Cfg) (m : Storage) (t : Slots) (k : SlotCheck) : Slots :=
  (if slotHit c m k then k.onMatch else k.onMiss).foldl bump t

/-- `resolve_slots()` (R146). -/
def resolveSlots (c : Cfg) (m : Storage) : Slots := c.slotProgram.foldl (runCheck c m) ⟨0, 0, 0⟩

/-- What a slot draws: the ROZ layer, or a scrolling layer (R147). -/
inductive DrawTarget where
  | roz
  | scroll (L : ScrollLayer)
  deriving DecidableEq, Repr

/-- The layers, each with its slot value and its tag, in the source's evaluation order (R147). -/
def slotCandidates (c : Cfg) (r : LayerRegs) (t : Slots) : List (DrawTarget × Nat × BitVec 3) :=
  [(.roz, t.rot, c.tagRoz), (.scroll (backgroundLayer r), t.scrl, c.tagBg), (.scroll .tx, t.asc, c.tagTx)]

/-- The layers drawn at slot value `v` (R147): all that hold it, or only the first under `FIRST_ONLY`. -/
def slotLayers (c : Cfg) (r : LayerRegs) (t : Slots) (v : Nat) : List (DrawTarget × Nat × BitVec 3) :=
  let here := (slotCandidates c r t).filter fun e => e.2.1 == v
  match c.slotTieMode with
  | .drawAll => here
  | .firstOnly => here.take 1

/-- Every layer that is drawn, first drawn first: slots 0 to 3 (R147). -/
def drawOrder (c : Cfg) (r : LayerRegs) (t : Slots) : List (DrawTarget × Nat × BitVec 3) :=
  [0, 1, 2, 3].flatMap (slotLayers c r t)

/-- The draw of one layer (R85, R95). -/
def drawTarget (c : Cfg) (s : State) (k : Clip) (sc : Scratch) (e : DrawTarget × Nat × BitVec 3) : Scratch :=
  match e.1 with
  | .roz => drawRoz c s e.2.2 k sc
  | .scroll L => drawScroll c s L e.2.2 k sc

/-- `draw_layers` (R147). -/
def drawLayers (c : Cfg) (s : State) (k : Clip) (sc : Scratch) : Scratch :=
  (drawOrder c s.layer (resolveSlots c s.mem)).foldl (drawTarget c s k) sc

/-! ## Mask and composition (R148 to R151) -/

/-- Test `i` of a sprite priority value (R148). -/
def maskTest (c : Cfg) (m : Storage) (sp : Nat) (i : Fin 8) : Bool :=
  (priHalf c m ((sp ||| c.priBase i) % c.priWords) &&& c.priPattern i) != 0

/-- The mask of a sprite priority value: test `i` sets bit `i` (R148). -/
def pixelMask (c : Cfg) (m : Storage) (sp : Nat) : BitVec 8 :=
  (List.finRange 8).foldl (fun acc i => if maskTest c m sp i then acc ||| (1#8 <<< i.val) else acc) 0

/-- A channel blended toward black (R150). -/
def blendRgb (f : Nat) (p : Rgb) : Rgb := ⟨scaleChannel p.r f, scaleChannel p.g f, scaleChannel p.b f⟩

/-- The colour a rule gives for a tile colour and a sprite colour (R149, R150, R151). -/
def composeRgb (c : Cfg) (p : PalLatch) (tc sc : Half) : Rule → Rgb
  | .showSpriteIfOpaque => if lowByte sc ≠ 0 then palRgb c p sc else palRgb c p tc
  | .alwaysTile => palRgb c p tc
  | .alphaBlendTile f => blendRgb f (palRgb c p tc)
  | .unhandled => c.placeholder

/-- What a pixel of `OUT` that nothing has written reads as: a draw under both profiles (R37, R38). -/
def out0 (c : Cfg) (a : Nat) : Rgb := c.draws.out a

/-- `OUT[y][x]` (R37). -/
def outAt (c : Cfg) (o : Plane Rgb) (x y : Nat) : Rgb := cellRead (out0 c) o (pixelKey c x y)

/-- `emit(x, y, rgb)` (R15). -/
def emit (c : Cfg) (x y : Nat) (v : Rgb) (o : Plane Rgb) : Plane Rgb := cellWrite (out0 c) o (pixelKey c x y) v

/-- What the pixel loop of a `RENDER` writes: the bitmap, the diagnostics, and the masks logged so far in this `RENDER` (R144). -/
structure MixState where
  out : Plane Rgb
  log : List Diag
  count : Nat
  logged : List (BitVec 8)
  deriving DecidableEq, Repr

/-- The bookkeeping of an unhandled pixel: counted always, logged at the first pixel of its mask (R151, R180). -/
def noteUnhandled (mask : BitVec 8) (tag : BitVec 3) (x y : Nat) (t : MixState) : MixState :=
  if mask ∈ t.logged then { t with count := t.count + 1 }
  else { t with count := t.count + 1, logged := mask :: t.logged, log := t.log ++ [.unhandledMask mask tag x y] }

/-- One output pixel (R150). -/
def mixPixel (c : Cfg) (m : Storage) (p : PalLatch) (sc : Scratch) (t : MixState) (q : Nat × Nat) : MixState :=
  let tag := tileTagAt c sc q.1 q.2
  let mask := pixelMask c m (sprPriAt c sc q.1 q.2)
  let rule := c.priLut mask tag
  let t' := if rule = .unhandled then noteUnhandled mask tag q.1 q.2 t else t
  { t' with out := emit c q.1 q.2 (composeRgb c p (tileColorAt c sc q.1 q.2) (sprColorAt c sc q.1 q.2) rule) t'.out }

/-! ## The frame (R144) -/

/-- Phase 1: the clip clamped to the bitmap (R144). -/
def clampClip (c : Cfg) (minx maxx miny maxy : BitVec 12) : Clip :=
  ⟨minx.toNat, min maxx.toNat (c.outW - 1), miny.toNat, min maxy.toNat (c.outH - 1)⟩

/-- Phase 2 at one pixel (R144). -/
def clearPixel (c : Cfg) (sc : Scratch) (q : Nat × Nat) : Scratch :=
  stampSprite c q.1 q.2 0 0 (stampTile c q.1 q.2 0 0 sc)

/-- Phase 2: the scratch buffers cleared inside the clip (R144). -/
def clearScratch (c : Cfg) (k : Clip) (sc : Scratch) : Scratch := (clipPixels k).foldl (clearPixel c) sc

/-- Phases 2, 3, 5 and 6: the scratch buffers when the pixel loop begins (R144). -/
def renderScratch (c : Cfg) (s : State) (k : Clip) : Scratch :=
  drawLayers c s k (drawSprites c s.mem k (clearScratch c k s.scratch))

/-- Phase 7: the pixel loop (R144). -/
def mixFrame (c : Cfg) (s : State) (k : Clip) (sc : Scratch) : MixState :=
  (clipPixels k).foldl (mixPixel c s.mem (latchPalette s) sc) ⟨s.out, s.diagLog, s.unhandledCount, []⟩

/-- `RENDER(clip)` over an already clamped clip (R144); phase 4, the palette, is what `latchPalette` says (log 10). -/
def renderClip (c : Cfg) (k : Clip) (s : State) : State :=
  let sc := renderScratch c s k
  let t := mixFrame c s k sc
  s.setFrame (latchPalette s) sc t.out t.log t.count

/-! ## Operations -/

/-- `WR_PRIRAM` (R142). -/
def execWrPriram (off : Offset) (data : Word) (lanes : Lanes) (s : State) : Host.Outcome State Fault Refusal :=
  .next (memWrite cfg .priram 7 off data lanes s)

/-- `RENDER` (R143). -/
def execRender (minx maxx miny maxy : BitVec 12) (s : State) : Host.Outcome State Fault Refusal :=
  .next (renderClip cfg (clampClip cfg minx maxx miny maxy) s)

end Sys2Proof.Machine
end

