-- ==== Sys2Proof/Machine/Reserved.lean ====
section
/-! DEFINITION. Reserved operation words (60_exceptions.md R176): logged and ignored, whatever their `LANES`. -/

namespace Sys2Proof.Machine

/-- `RESERVED_OPC` (R176). -/
def execReservedOpc0 (rest : BitVec 60) (s : State) : Host.Outcome State Fault Refusal :=
  .next (badOp (0#4 ++ rest) s)

/-- `RESERVED_OPC` (R176). -/
def execReservedOpc4to7 (rest : BitVec 62) (s : State) : Host.Outcome State Fault Refusal :=
  .next (badOp (1#2 ++ rest) s)

/-- `RESERVED_OPC` (R176). -/
def execReservedOpc8to15 (rest : BitVec 63) (s : State) : Host.Outcome State Fault Refusal :=
  .next (badOp (1#1 ++ rest) s)

/-- `RESERVED_COMP` (R176). -/
def execReservedComp (rest : BitVec 58) (s : State) : Host.Outcome State Fault Refusal :=
  .next (badOp (7#6 ++ rest) s)

end Sys2Proof.Machine
end

