-- ==== Sys2Proof/Machine/Dispatch.lean ====
section
/-! DEFINITION. The dispatch: one arm for each operation (R60). -/

namespace Sys2Proof.Machine

def exec (i : Instr) (s : State) : Host.Outcome State Fault Refusal :=
  match i with
  | .wrTxram off data lanes => Sys2Proof.Machine.execWrTxram off data lanes s
  | .wrBgram off data lanes => Sys2Proof.Machine.execWrBgram off data lanes s
  | .wrBgaltram off data lanes => Sys2Proof.Machine.execWrBgaltram off data lanes s
  | .wrRozram off data lanes => Sys2Proof.Machine.execWrRozram off data lanes s
  | .wrLayerTxScrollx data lanes => Sys2Proof.Machine.execWrLayerTxScrollx data lanes s
  | .wrLayerTxScrolly data lanes => Sys2Proof.Machine.execWrLayerTxScrolly data lanes s
  | .wrLayerBgScrollx data lanes => Sys2Proof.Machine.execWrLayerBgScrollx data lanes s
  | .wrLayerBgScrolly data lanes => Sys2Proof.Machine.execWrLayerBgScrolly data lanes s
  | .wrLayerBgaltScrollx data lanes => Sys2Proof.Machine.execWrLayerBgaltScrollx data lanes s
  | .wrLayerBgaltScrolly data lanes => Sys2Proof.Machine.execWrLayerBgaltScrolly data lanes s
  | .wrLayerBgLayout data lanes => Sys2Proof.Machine.execWrLayerBgLayout data lanes s
  | .wrLayerUnknown off data lanes => Sys2Proof.Machine.execWrLayerUnknown off data lanes s
  | .wrLineram off data lanes => Sys2Proof.Machine.execWrLineram off data lanes s
  | .wrRozctrlStartxLo data lanes => Sys2Proof.Machine.execWrRozctrlStartxLo data lanes s
  | .wrRozctrlStartxHi data lanes => Sys2Proof.Machine.execWrRozctrlStartxHi data lanes s
  | .wrRozctrlStartyLo data lanes => Sys2Proof.Machine.execWrRozctrlStartyLo data lanes s
  | .wrRozctrlStartyHi data lanes => Sys2Proof.Machine.execWrRozctrlStartyHi data lanes s
  | .wrRozctrlIncxxLo data lanes => Sys2Proof.Machine.execWrRozctrlIncxxLo data lanes s
  | .wrRozctrlIncxxHi data lanes => Sys2Proof.Machine.execWrRozctrlIncxxHi data lanes s
  | .wrRozctrlIncxyLo data lanes => Sys2Proof.Machine.execWrRozctrlIncxyLo data lanes s
  | .wrRozctrlIncxyHi data lanes => Sys2Proof.Machine.execWrRozctrlIncxyHi data lanes s
  | .wrRozctrlIncyyLo data lanes => Sys2Proof.Machine.execWrRozctrlIncyyLo data lanes s
  | .wrRozctrlIncyyHi data lanes => Sys2Proof.Machine.execWrRozctrlIncyyHi data lanes s
  | .wrRozctrlIncyxLo data lanes => Sys2Proof.Machine.execWrRozctrlIncyxLo data lanes s
  | .wrRozctrlIncyxHi data lanes => Sys2Proof.Machine.execWrRozctrlIncyxHi data lanes s
  | .wrRozctrlOffx data lanes => Sys2Proof.Machine.execWrRozctrlOffx data lanes s
  | .wrRozctrlOffy data lanes => Sys2Proof.Machine.execWrRozctrlOffy data lanes s
  | .wrRozctrlOffselx data lanes => Sys2Proof.Machine.execWrRozctrlOffselx data lanes s
  | .wrRozctrlOffsely data lanes => Sys2Proof.Machine.execWrRozctrlOffsely data lanes s
  | .wrRozctrlMode data lanes => Sys2Proof.Machine.execWrRozctrlMode data lanes s
  | .wrRozctrlSpare k data lanes => Sys2Proof.Machine.execWrRozctrlSpare k data lanes s
  | .wrRozctrlUnknown off data lanes => Sys2Proof.Machine.execWrRozctrlUnknown off data lanes s
  | .wrSprram off data lanes => Sys2Proof.Machine.execWrSprram off data lanes s
  | .vblank => Sys2Proof.Machine.execVblank s
  | .wrCrtcCtrl data lanes => Sys2Proof.Machine.execWrCrtcCtrl data lanes s
  | .wrCrtcHblank data lanes => Sys2Proof.Machine.execWrCrtcHblank data lanes s
  | .wrCrtcHdisp data lanes => Sys2Proof.Machine.execWrCrtcHdisp data lanes s
  | .wrCrtcVblank data lanes => Sys2Proof.Machine.execWrCrtcVblank data lanes s
  | .wrCrtcVdisp data lanes => Sys2Proof.Machine.execWrCrtcVdisp data lanes s
  | .wrCrtcPorchBack data lanes => Sys2Proof.Machine.execWrCrtcPorchBack data lanes s
  | .wrCrtcPorchFront data lanes => Sys2Proof.Machine.execWrCrtcPorchFront data lanes s
  | .wrCrtcUnknown off data lanes => Sys2Proof.Machine.execWrCrtcUnknown off data lanes s
  | .wrPriram off data lanes => Sys2Proof.Machine.execWrPriram off data lanes s
  | .render minx maxx miny maxy => Sys2Proof.Machine.execRender minx maxx miny maxy s
  | .wrPalram off data lanes => Sys2Proof.Machine.execWrPalram off data lanes s
  | .wrBrightB0r0 data lanes => Sys2Proof.Machine.execWrBrightB0r0 data lanes s
  | .wrBrightB0r1 data lanes => Sys2Proof.Machine.execWrBrightB0r1 data lanes s
  | .wrBrightB1r0 data lanes => Sys2Proof.Machine.execWrBrightB1r0 data lanes s
  | .wrBrightB1r1 data lanes => Sys2Proof.Machine.execWrBrightB1r1 data lanes s
  | .wrBrightUnknown off data lanes => Sys2Proof.Machine.execWrBrightUnknown off data lanes s
  | .reservedOpc0 rest => Sys2Proof.Machine.execReservedOpc0 rest s
  | .reservedOpc4to7 rest => Sys2Proof.Machine.execReservedOpc4to7 rest s
  | .reservedOpc8to15 rest => Sys2Proof.Machine.execReservedOpc8to15 rest s
  | .reservedComp rest => Sys2Proof.Machine.execReservedComp rest s

end Sys2Proof.Machine
end

