-- ==== Sys2Proof/Machine/Step.lean ====
section
/-! DEFINITION. One step: the next operation of the stream is taken, decoded and run (R4, R19, R49, R61, R204). -/

namespace Sys2Proof.Machine

/-- One step. The block has no program counter (R19): it takes the next operation word delivered to it. With none delivered it is
ready and nothing changes (R190; log 2). -/
def step (s : State) : Host.Outcome State Fault Refusal :=
  match fetch s with
  | none => .next s
  | some (w, s') => exec (decode w) s'

/-- The state with an operation word of `nbits` bits delivered ahead of every other (log 1). -/
def State.withFetchWord (s : State) (nbits w : Nat) : State := placeWord s nbits w

end Sys2Proof.Machine
end

