-- ==== Sys2Proof/Machine/Pseudo.lean ====
section
/-! DEFINITION. The assembler's lines and the pseudo-operations (R64, R65), and the brightness setup sequence of R196, each as the
operation words it stands for. A line is a term, not text (log 17); an operand of a pseudo-operation that no field can hold is reduced
to the field's width (DESIGN CHOICE: log 19). -/

namespace Sys2Proof.Machine

/-- The storage spaces an assembler line names (R64). -/
inductive AsmSpace where
  | txram | bgram | bgaltram | rozram | lineram | sprram | palram | priram
  deriving DecidableEq, Repr

/-- The register components an assembler line names (R64). -/
inductive AsmBlock where
  | roz | crtc | bright | layer
  deriving DecidableEq, Repr

/-- The target of a `WR` line: a storage word, or a register by its offset (R60, R64). -/
inductive AsmTarget where
  | space (sp : AsmSpace) (off : Offset)
  | reg (blk : AsmBlock) (off : Offset)
  deriving DecidableEq, Repr

/-- A line (R64); `LANES` is 0xF when none is given. -/
inductive AsmLine where
  | wr (target : AsmTarget) (data : Word) (lanes : Lanes := 0xF)
  | word (w : OpWord)
  | vblank
  | render (minx maxx miny maxy : BitVec 12)
  deriving DecidableEq, Repr

/-- The component a target lies in (R57). -/
def asmComp : AsmTarget → BitVec 4
  | .space .txram _ => 0
  | .space .bgram _ => 1
  | .space .bgaltram _ => 2
  | .space .rozram _ => 3
  | .space .lineram _ => 4
  | .space .sprram _ => 5
  | .space .palram _ => 6
  | .space .priram _ => 7
  | .reg .roz _ => 8
  | .reg .crtc _ => 9
  | .reg .bright _ => 10
  | .reg .layer _ => 11

/-- The offset of a target. -/
def asmOff : AsmTarget → Offset
  | .space _ off => off
  | .reg _ off => off

/-- The operation word of a line (R55, R64). -/
def assemble : AsmLine → OpWord
  | .wr t data lanes => packWrite (asmComp t) lanes (asmOff t) data
  | .word w => w
  | .vblank => encode .vblank
  | .render minx maxx miny maxy => encode (.render minx maxx miny maxy)

/-- The ROZ fields of `WRROZ` (R65). -/
inductive RozField where
  | startX | startY | incXX | incXY | incYY | incYX
  deriving DecidableEq, Repr

/-- The offset of a field's low word; its high word follows it (R27). -/
def rozFieldOff : RozField → Offset
  | .startX => 0
  | .startY => 2
  | .incXX => 4
  | .incXY => 6
  | .incYY => 8
  | .incYX => 10

/-- The CRTC width registers of `WRCRTCW` (R65). -/
inductive CrtcWidthReg where
  | hblank | hdisp | vblank | vdisp
  deriving DecidableEq, Repr

/-- The offset of a width register (R29). -/
def crtcWidthOff : CrtcWidthReg → Offset
  | .hblank => 1
  | .hdisp => 2
  | .vblank => 3
  | .vdisp => 4

/-- The pseudo-operations (R65). -/
inductive Pseudo where
  | wr16 (target : AsmTarget) (data : Word)
  | wrroz (f : RozField) (v : Int)
  | wrline (n : Nat) (sx sy ixx ixy : Int)
  | wrcrtcw (reg : CrtcWidthReg) (width : Int)
  | frame (minx maxx miny maxy : BitVec 12)
  deriving DecidableEq, Repr

/-- `v18[15:0]` of the 18-bit form of a value (R65). R65 gives no form to a value outside -131072..131071: it is reduced modulo `2^18`
(DESIGN CHOICE: log 19). -/
def low18 (v : Int) : Word := ((BitVec.ofInt 18 v).extractLsb' 0 16).setWidth 32

/-- `v18[17:16]` of the 18-bit form of a value (R65), reduced modulo `2^18` as in `low18` (DESIGN CHOICE: log 19). -/
def high18 (v : Int) : Word := ((BitVec.ofInt 18 v).extractLsb' 16 2).setWidth 32

/-- A write to a word of line-table entry `n` (R65). R65 gives no word to an `n` whose offsets pass 20 bits: the offset is reduced modulo
`2^20` (DESIGN CHOICE: log 19). -/
def lineWrite (n j : Nat) (data : Word) : AsmLine := .wr (.space .lineram (BitVec.ofNat 20 (8 * n + j))) data

/-- The lines a pseudo-operation expands to (R65). The `DATA` of `WRCRTCW` is `0x1000 - width` reduced modulo `2^32`, which R65 leaves
open where it is negative or too large (DESIGN CHOICE: log 19). -/
def expand : Pseudo → List AsmLine
  | .wr16 t data => [.wr t data 0x3]
  | .wrroz f v => [.wr (.reg .roz (rozFieldOff f)) (low18 v), .wr (.reg .roz (rozFieldOff f + 1)) (high18 v)]
  | .wrline n sx sy ixx ixy =>
    [lineWrite n 0 (low18 sx), lineWrite n 1 (high18 sx), lineWrite n 2 (low18 sy), lineWrite n 3 (high18 sy),
      lineWrite n 4 (low18 ixx), lineWrite n 5 (high18 ixx), lineWrite n 6 (low18 ixy), lineWrite n 7 (high18 ixy)]
  | .wrcrtcw reg width => [.wr (.reg .crtc (crtcWidthOff reg)) (BitVec.ofInt 32 (0x1000 - width))]
  | .frame minx maxx miny maxy => [.render minx maxx miny maxy, .vblank]

/-- The four lines that set a brightness bank to `(v0, v1)` from any prior state (R196), for the bank whose register 0 stands at
`off`. -/
def brightSetup (off : Offset) (v0 v1 : Half) : List AsmLine :=
  [.wr (.reg .bright off) ((~~~v0).setWidth 32) 0x3, .wr (.reg .bright off) (v0.setWidth 32) 0x3,
    .wr (.reg .bright (off + 1)) ((~~~v1).setWidth 32) 0x3, .wr (.reg .bright (off + 1)) (v1.setWidth 32) 0x3]

end Sys2Proof.Machine
end

