-- ==== Sys2Proof/Machine/Reference.lean ====
section
/-! DEFINITION. The reference definitions of the OPEN parameters (R121, R124, R154): "used by 95_test_vectors.md only". The machine does
not use them; they show legal values of the parameters, and the tests run on them. -/

namespace Sys2Proof.Machine

open Sys2Proof.Config

/-- `SPR_LAYOUT_REF` (R121). -/
def layoutRef (w : Fin 8 → Half) : SpriteEntry where
  disable := (w 0).getLsbD 2
  pri := (highByte (w 0)).toNat
  flipx := (w 0).getLsbD 0
  flipy := (w 0).getLsbD 1
  code := (w 1).toNat
  color := (w 2).toNat
  tx := (lowByte (w 3)).toNat
  ty := (highByte (w 3)).toNat
  xsize := (lowByte (w 4)).toNat
  ysize := (highByte (w 4)).toNat
  sx := sext (w 5)
  sy := sext (w 6)
  xzoom := (lowByte (w 7)).toNat
  yzoom := (highByte (w 7)).toNat

/-- How many destination steps `d` have `d * zoom < size * 64` (R124). -/
def blitSteps (size zoom : Nat) : Nat := (size * 64 + zoom - 1) / zoom

/-- The source offset of a destination step, mirrored when flipped (R124). -/
def blitSource (flip : Bool) (size zoom d : Nat) : Nat :=
  let i := d * zoom / 64
  if flip then size - 1 - i else i

/-- One destination pixel of `SPR_BLIT_REF` (R124). -/
def blitPixelRef (transpen : Nat) (gfx : SprGfx) (e : SpriteEntry) (k : Clip) (dx dy : Nat) : Option SprPixel :=
  let X := e.sx + dx
  let Y := e.sy + dy
  if (k.minx : Int) ≤ X ∧ X ≤ (k.maxx : Int) ∧ (k.miny : Int) ≤ Y ∧ Y ≤ (k.maxy : Int) then
    let g := gfx e.code e.color ((e.tx + blitSource e.flipx e.xsize e.xzoom dx : Nat)) ((e.ty + blitSource e.flipy e.ysize e.yzoom dy : Nat))
    if g.1 = transpen then none else some ⟨X.toNat, Y.toNat, g.2⟩
  else none

/-- `SPR_BLIT_REF` (R124). -/
def blitRef (transpen : Nat) (gfx : SprGfx) (e : SpriteEntry) (k : Clip) : List SprPixel :=
  (List.range (blitSteps e.ysize e.yzoom)).flatMap fun dy =>
    (List.range (blitSteps e.xsize e.xzoom)).filterMap fun dx => blitPixelRef transpen gfx e k dx dy

/-- `SLOT_PROGRAM_REF` (R154). -/
def slotProgramRef : List SlotCheck :=
  [⟨0xF0, 0x00FF, 0x34, [.asc], [.rot]⟩, ⟨0xF1, 0x00FF, 0x34, [.asc], [.scrl]⟩, ⟨0xF2, 0x00FF, 0x0C, [.scrl], [.rot]⟩]

/-- `PRI_LUT_REF` (R154). -/
def priLutRef (keep : Nat) (mask : BitVec 8) (_tag : BitVec 3) : Rule :=
  if mask = 0 then .showSpriteIfOpaque
  else if mask = 1 then .alwaysTile
  else if mask = 2 then .alphaBlendTile keep
  else .unhandled

/-- The configuration of the "Ref" column of R10 and R11 with the reference tables of R154; grids, oracles, clocks and draws have
no reference value and are the ones of `Cfg`'s defaults. -/
def cfgRef : Cfg where
  rozOffsetBias := 0x400
  rozFlipMode := .planeMirror
  sprEntries := 4
  sprLayout := layoutRef
  sprBlit := blitRef 0
  sprPriBits := 8
  priWords := 0x100
  priPattern := fun i => 1#16 <<< i.val
  priBase := fun _ => 0
  priLut := priLutRef 0x80
  slotProgram := slotProgramRef
  slotTieMode := .drawAll
  blendKeep := 0x80
  defaultGeometry := ⟨320, 224, 384, 263⟩
  outW := 320
  outH := 240

end Sys2Proof.Machine
end

