-- ==== Sys2Proof/Safety.lean ====
section
/-! DEFINITION. What the statements call a good state and a safe run (R174, R175), and the words they share: the invariant every step
keeps, the state a `RENDER` may depend on, and the lists of operations of one shape. -/

namespace Sys2Proof.Safety

open Sys2Proof.Config Sys2Proof.Machine

/-! ## The invariant -/

/-- A buffer in canonical form with every listed address below a bound. -/
structure CellsOk {α : Type} [DecidableEq α] (d : Nat → α) (bound : Nat) (m : List (Nat × α)) : Prop where
  wf : cellsWf d m = true
  below : ∀ e ∈ m, e.1 < bound

/-- Scales in 0..256 (R31). -/
def ScalesOk (t : Scales) : Prop := t.r ≤ 256 ∧ t.g ≤ 256 ∧ t.b ≤ 256

/-- What holds of every state of a run under the configuration `c`. -/
structure Inv (c : Cfg) (s : State) : Prop where
  /-- every space in canonical form, nothing listed past its last word (R39, R43; log 8) -/
  mem : ∀ sp, CellsOk (resetByte c sp) (4 * spaceSize c sp) (s.mem.get sp)
  /-- under `SHARED`, `BGALTRAM` does not exist (R22) -/
  bgalt : c.bgaltTableMode = .shared → s.mem.bgaltram = []
  /-- the pixel buffers, nothing listed outside the bitmap (R34, R37, R127) -/
  tileColor : CellsOk (tileColor0 c) (c.outW * c.outH) s.scratch.tileColor
  tileTag : CellsOk (tileTag0 c) (c.outW * c.outH) s.scratch.tileTag
  sprColor : CellsOk (sprColor0 c) (c.outW * c.outH) s.scratch.sprColor
  sprPri : CellsOk (sprPri0 c) (c.outW * c.outH) s.scratch.sprPri
  out : CellsOk (out0 c) (c.outW * c.outH) s.out
  /-- a priority value has `SPR_PRI_BITS` bits (R34) -/
  sprPri_range : ∀ a, cellRead (sprPri0 c) s.scratch.sprPri a < 2 ^ c.sprPriBits
  /-- R31 -/
  scales : ScalesOk s.scales
  /-- the palette latch is a palette table and scales (R35; log 10) -/
  latchRam : CellsOk (resetByte c .palram) (4 * spaceSize c .palram) s.palLatch.ram
  latchScales : ScalesOk s.palLatch.scales
  /-- R33, R129 -/
  geom : 1 ≤ s.geom.visW ∧ 1 ≤ s.geom.visH ∧ 1 ≤ s.geom.hTotal ∧ 1 ≤ s.geom.vTotal
  /-- every logged mask was counted (R151) -/
  counted : s.diagLog.countP (fun d => d.code == 6) ≤ s.unhandledCount

/-! ## Safe runs -/

/-- "A claim that no error occurred is a claim that `DIAG_LOG` gained no record of the codes it names" (R174). -/
def NoError (codes : List Nat) (s t : State) : Prop :=
  ∃ new, t.diagLog = s.diagLog ++ new ∧ ∀ d ∈ new, d.code ∉ codes

/-! ## Pixels -/

/-- A clip inside the bitmap, as phase 1 leaves it (R144). -/
def ClipIn (c : Cfg) (k : Clip) : Prop := k.maxx < c.outW ∧ k.maxy < c.outH

/-- The layer a draw target samples (R147). -/
def targetLayer : DrawTarget → Layer
  | .roz => .roz
  | .scroll L => scrollLayer L

/-- The graphics a draw target has at a pixel (R85, R95). -/
def targetSample (c : Cfg) (s : State) (e : DrawTarget) (x y : Nat) : GfxPixel :=
  match e with
  | .roz => samplePlane c s.mem .roz (rozCoord c s x y).1 (rozCoord c s x y).2
  | .scroll L => samplePlane c s.mem (scrollLayer L) (scrollCoord c s L x y).1 (scrollCoord c s L x y).2

/-- A draw target is opaque at a pixel (R85, R95). -/
def Opaque (c : Cfg) (s : State) (e : DrawTarget) (x y : Nat) : Prop :=
  (targetSample c s e x y).1 ≠ c.transpen (targetLayer e)

/-- Entry `e` of the display buffer, walked over `clip`, covers a pixel with an index (R122, R125). -/
def SpriteCovers (c : Cfg) (m : Storage) (k : Clip) (e x y : Nat) (palidx : Half) : Prop :=
  spriteSkipped (spriteEntry c m e) = false ∧ ⟨x, y, palidx⟩ ∈ c.sprBlit c.sprGfx (spriteEntry c m e) k

/-- The pixel's mask and tag after the layers and sprites of a `RENDER` have been drawn (R148, R150). -/
def pixelCase (c : Cfg) (m : Storage) (sc : Scratch) (q : Nat × Nat) : BitVec 8 × BitVec 3 :=
  (pixelMask c m (sprPriAt c sc q.1 q.2), tileTagAt c sc q.1 q.2)

/-- The pixels of a clip that resolve to `Unhandled`, in row-major order (R151). -/
def unhandledPixels (c : Cfg) (m : Storage) (sc : Scratch) (k : Clip) : List (Nat × Nat) :=
  (clipPixels k).filter fun q => c.priLut (pixelCase c m sc q).1 (pixelCase c m sc q).2 = .unhandled

/-! ## What a `RENDER` may depend on -/

/-- Two states that agree on everything a `RENDER` reads: the display buffer and not the live one (R24), no spare `ROZCTRL`
word (R114), bit 0 of `BG_LAYOUT` only (R81), no CRTC or brightness register, no earlier frame (R34, R37, R152). -/
structure SameInputs (s t : State) : Prop where
  mem : ∀ sp, sp ≠ .sprLive → s.mem.get sp = t.mem.get sp
  rozctrl : ∀ k : Fin 32, k.val < 16 ∨ k.val = 23 → s.rozctrl[k] = t.rozctrl[k]
  scroll : ∀ L, scrollX s.layer L = scrollX t.layer L ∧ scrollY s.layer L = scrollY t.layer L
  layout : s.layer.bgLayout.getLsbD 0 = t.layer.bgLayout.getLsbD 0
  scales : s.scales = t.scales
  flipX : s.flipX = t.flipX
  flipY : s.flipY = t.flipY
  visW : s.geom.visW = t.geom.visW
  visH : s.geom.visH = t.geom.visH

/-! ## Operations of one shape -/

/-- The storage writes, each with its space and the component it names (R39, R60). -/
def storageWrites (off : Offset) (data : Word) (lanes : Lanes) : List (Instr × Space × BitVec 4) :=
  [ (.wrTxram off data lanes, .txram, 0),
    (.wrBgram off data lanes, .bgram, 1),
    (.wrBgaltram off data lanes, if cfg.bgaltTableMode = .shared then .bgram else .bgaltram, 2),
    (.wrRozram off data lanes, .rozram, 3),
    (.wrLineram off data lanes, .lineram, 4),
    (.wrSprram off data lanes, .sprLive, 5),
    (.wrPalram off data lanes, .palram, 6),
    (.wrPriram off data lanes, .priram, 7) ]

/-- The writes to named `ROZCTRL` words, each with its word (R27, R60). -/
def rozctrlWrites (data : Word) (lanes : Lanes) : List (Instr × Fin 32) :=
  [ (.wrRozctrlStartxLo data lanes, 0), (.wrRozctrlStartxHi data lanes, 1),
    (.wrRozctrlStartyLo data lanes, 2), (.wrRozctrlStartyHi data lanes, 3),
    (.wrRozctrlIncxxLo data lanes, 4), (.wrRozctrlIncxxHi data lanes, 5),
    (.wrRozctrlIncxyLo data lanes, 6), (.wrRozctrlIncxyHi data lanes, 7),
    (.wrRozctrlIncyyLo data lanes, 8), (.wrRozctrlIncyyHi data lanes, 9),
    (.wrRozctrlIncyxLo data lanes, 10), (.wrRozctrlIncyxHi data lanes, 11),
    (.wrRozctrlOffx data lanes, 12), (.wrRozctrlOffy data lanes, 13),
    (.wrRozctrlOffselx data lanes, 14), (.wrRozctrlOffsely data lanes, 15),
    (.wrRozctrlMode data lanes, 23) ]

/-- The writes to layer control registers, each with its register (R28, R60). -/
def layerWrites (data : Word) (lanes : Lanes) : List (Instr × LayerReg) :=
  [ (.wrLayerTxScrollx data lanes, .txScrollX), (.wrLayerTxScrolly data lanes, .txScrollY),
    (.wrLayerBgScrollx data lanes, .bgScrollX), (.wrLayerBgScrolly data lanes, .bgScrollY),
    (.wrLayerBgaltScrollx data lanes, .bgaltScrollX), (.wrLayerBgaltScrolly data lanes, .bgaltScrollY),
    (.wrLayerBgLayout data lanes, .bgLayout) ]

/-- The writes to the CRTC width registers and the control register, which recompute the geometry (R132, R60). -/
def geometryWrites (data : Word) (lanes : Lanes) : List (Instr × CrtcReg) :=
  [ (.wrCrtcCtrl data lanes, .ctrl), (.wrCrtcHblank data lanes, .hblank), (.wrCrtcHdisp data lanes, .hdisp),
    (.wrCrtcVblank data lanes, .vblank), (.wrCrtcVdisp data lanes, .vdisp) ]

/-- The writes to the porch registers, each with its register and its offset (R138, R139). -/
def porchWrites (data : Word) (lanes : Lanes) : List (Instr × CrtcReg × Nat) :=
  [ (.wrCrtcPorchBack data lanes, .porchBack, 5), (.wrCrtcPorchFront data lanes, .porchFront, 6) ]

/-- The writes to brightness registers, each with its bank and register (R30, R60). -/
def brightnessWrites (data : Word) (lanes : Lanes) : List (Instr × Bank × BrtReg) :=
  [ (.wrBrightB0r0 data lanes, .b0, .r0), (.wrBrightB0r1 data lanes, .b0, .r1),
    (.wrBrightB1r0 data lanes, .b1, .r0), (.wrBrightB1r1 data lanes, .b1, .r1) ]

/-- The writes to register offsets that no register has, each with its component (R177). -/
def unknownWrites (off : Offset) (data : Word) (lanes : Lanes) : List (Instr × BitVec 4) :=
  [ (.wrRozctrlUnknown off data lanes, 8), (.wrCrtcUnknown off data lanes, 9),
    (.wrBrightUnknown off data lanes, 10), (.wrLayerUnknown off data lanes, 11) ]

/-- The reserved operations (R176). -/
def Reserved : Instr → Prop
  | .reservedOpc0 _ => True
  | .reservedOpc4to7 _ => True
  | .reservedOpc8to15 _ => True
  | .reservedComp _ => True
  | _ => False

/-- The instruction is a `RENDER`. -/
def IsRender (i : Instr) : Prop := ∃ minx maxx miny maxy, i = .render minx maxx miny maxy

/-- `n` steps, stopping at a fault or a refusal. -/
def runSteps : Nat → State → Host.Outcome State Fault Refusal
  | 0, s => .next s
  | n + 1, s =>
    match step s with
    | .next t => runSteps n t
    | .fault r => .fault r
    | .refused r => .refused r

/-- A list of operation words delivered to a state and each taken in a step (R204). -/
def runWords (s : State) (ws : List OpWord) : Host.Outcome State Fault Refusal := runSteps ws.length (deliver s ws)

end Sys2Proof.Safety
end

