-- ==== Sys2Proof/Certificates/Slice0/Obligations.lean ====
section
/-! DEFINITION. The statements. One that says "for every legal configuration" holds of the machine's own, `cfg`, which is an opaque legal
one; a frame is an equation between whole states, so that it names every field that may differ. -/

open Sys2Proof Sys2Proof.Config Sys2Proof.Machine Sys2Proof.Safety

/-! ## Encoding -/

/-- The decoder reads back every well-formed operation from the word the encoder writes for it (R55, R56, R60). -/
def Obligations.DecodeEncodeAgree : Prop := ∀ i : Instr, i.wf = true → decode (encode i) = i

/-- Every word decodes to a well-formed operation, whose word differs from it in ignored bits only (R55, R61; log 13). -/
def Obligations.EncodeDecodeAgree : Prop :=
  ∀ w : OpWord, (decode w).wf = true ∧ encode (decode w) = clearIgnored w

/-- The decoder is total and takes the matching row whose mask has the most set bits; it is the only such row (R61). -/
def Obligations.DecoderTakesHeaviestRow : Prop :=
  ∀ w : OpWord,
    (decode w).row ∈ opcodeTable ∧ (decode w).row.hits w = true ∧
    (∀ r ∈ opcodeTable, r.hits w = true → r ≠ (decode w).row → r.weight < (decode w).row.weight) ∧
    selectRow w = some (decode w).row

/-- Words of every operation class and of every kind of row, written out from the spec's encoding, decode to what they stand for. -/
def Obligations.SampleWordsDecode : Prop :=
  decode 0x10F0000200001234 = .wrTxram 2 0x1234 0xF ∧
  decode 0x11100001000000F7 = .wrBgram 1 0xF7 0x1 ∧
  decode 0x14F0000C00000100 = .wrLineram 12 0x100 0xF ∧
  decode 0x19F0000200000EC0 = .wrCrtcHdisp 0xEC0 0xF ∧
  decode 0x18F0001700000001 = .wrRozctrlMode 1 0xF ∧
  decode 0x18F0001000001234 = .wrRozctrlSpare 0 0x1234 0xF ∧
  decode 0x18F0002000000000 = .wrRozctrlUnknown 32 0 0xF ∧
  decode 0x1AF0000000008040 = .wrBrightB0r0 0x8040 0xF ∧
  decode 0x1BF0000700000005 = .wrLayerUnknown 7 5 0xF ∧
  decode 0x2000000000000000 = .vblank ∧
  decode 0x300000013F0000DF = .render 0 319 0 223 ∧
  decode 0x1C00000000000000 = .reservedComp 0 ∧
  decode 0xF123456789ABCDEF = .reservedOpc8to15 0x7123456789ABCDEF

/-! ## Words that are no operation of a component -/

/-- R176: a reserved word changes no state but the log, to which it appends `DIAG_BAD_OP` with the word, whatever its `LANES`. -/
def Obligations.ReservedWordsLogged : Prop :=
  (∀ (w : OpWord) (s : State),
    (fieldOpc w = 0 ∨ 4 ≤ (fieldOpc w).toNat ∨ (fieldOpc w = 1 ∧ 12 ≤ (fieldComp w).toNat)) →
    exec (decode w) s = .next { s with diagLog := s.diagLog ++ [.badOp w] }) ∧
  ∀ (i : Instr) (s : State), Reserved i → exec i s = .next { s with diagLog := s.diagLog ++ [.badOp (encode i)] }

/-- R177: a register write at an unassigned offset changes no state but the log, to which it appends `DIAG_UNKNOWN_REG`; with
`LANES = 0` it has no effect; the spare `ROZCTRL` offsets log nothing. -/
def Obligations.UnassignedOffsetsLogged : Prop :=
  (∀ (off : Offset) (data : Word) (lanes : Lanes) (s : State), ∀ p ∈ unknownWrites off data lanes,
    exec p.1 s = .next (if lanes = 0 then s else { s with diagLog := s.diagLog ++ [.unknownReg p.2 off data] })) ∧
  (∀ (w : OpWord) (s : State), fieldOpc w = 1 →
    ((fieldComp w = 8 ∧ 32 ≤ (fieldOff w).toNat) ∨ (fieldComp w = 9 ∧ 7 ≤ (fieldOff w).toNat) ∨
      (fieldComp w = 10 ∧ 4 ≤ (fieldOff w).toNat) ∨ (fieldComp w = 11 ∧ 7 ≤ (fieldOff w).toNat)) →
    exec (decode w) s = .next (if fieldLanes w = 0 then s
      else { s with diagLog := s.diagLog ++ [.unknownReg (fieldComp w) (fieldOff w) (fieldData w)] })) ∧
  ∀ (w : OpWord) (s : State), fieldOpc w = 1 → fieldComp w = 8 →
    (16 ≤ (fieldOff w).toNat ∧ (fieldOff w).toNat ≤ 22 ∨ 24 ≤ (fieldOff w).toNat ∧ (fieldOff w).toNat ≤ 31) →
    ∃ t, exec (decode w) s = .next t ∧ t.diagLog = s.diagLog

/-! ## Storage -/

/-- The sizes of the spaces a write reaches (R39). -/
def Obligations.SpaceSizes : Prop :=
  spaceSize cfg .txram = 2 * cfg.cols .tx * cfg.rows .tx ∧ spaceSize cfg .bgram = 2 * cfg.cols .bg * cfg.rows .bg ∧
  spaceSize cfg .bgaltram = 2 * cfg.cols .bgalt * cfg.rows .bgalt ∧
  spaceSize cfg .rozram = 2 * cfg.cols .roz * cfg.rows .roz ∧ spaceSize cfg .lineram = 2048 ∧
  spaceSize cfg .sprLive = 8 * cfg.sprEntries ∧ spaceSize cfg .sprDisp = 8 * cfg.sprEntries ∧
  spaceSize cfg .palram = 0x10000 ∧ spaceSize cfg .priram = cfg.priWords

/-- R43 for all eight storage writes: no lanes, no effect; past the end of the space, one `DIAG_OFFSET_RANGE` and no cell changes;
else the word takes the addressed lanes and no other word of any space and no other state changes. (The component of the record of a
`WR_BGALTRAM` under `SHARED` is 1 or 2: which, is left open here, log 9.) -/
def Obligations.StorageWriteMergesLanes : Prop :=
  ∀ (off : Offset) (data : Word) (lanes : Lanes) (s : State), ∀ p ∈ storageWrites off data lanes,
    ∃ t, exec p.1 s = .next t ∧
      if lanes = 0 then t = s
      else if spaceSize cfg p.2.1 ≤ off.toNat then
        ∃ comp, (cfg.bgaltTableMode = .shared ∧ p.2.2 = 2 ∧ (comp = 1 ∨ comp = 2) ∨ comp = p.2.2) ∧
          t = { s with diagLog := s.diagLog ++ [.offsetRange comp off] }
      else
        t = { s with mem := t.mem } ∧
        ∀ sp i, wordAt cfg t.mem sp i =
          if sp = p.2.1 ∧ i = off.toNat then
            (wordAt cfg s.mem sp i &&& ~~~lanemask lanes) ||| (data &&& lanemask lanes)
          else wordAt cfg s.mem sp i

/-- R41 with R43: byte by byte, a storage write in range stores lane `k` of `DATA` exactly where bit `k` of `LANES` is set, at byte
`4 * OFF + k` of its space, and every other byte of every space reads as before. -/
def Obligations.StorageWriteIsBytewise : Prop :=
  ∀ (off : Offset) (data : Word) (lanes : Lanes) (s : State), ∀ p ∈ storageWrites off data lanes,
    ∃ t, exec p.1 s = .next t ∧ ∀ sp a,
      byteAt cfg t.mem sp a =
        if sp = p.2.1 ∧ off.toNat < spaceSize cfg sp ∧ a / 4 = off.toNat ∧ lanes.getLsbD (a % 4) = true then
          data.extractLsb' (8 * (a % 4)) 8
        else byteAt cfg s.mem sp a

/-- R40: a read takes the cell at the index reduced modulo the size, which is inside the space. -/
def Obligations.ReadsStayInSpace : Prop :=
  ∀ (c : Cfg), c.Legal → ∀ (m : Storage) (sp : Space) (i : Nat),
    memRead c m sp i = wordAt c m sp (i % spaceSize c sp) ∧ i % spaceSize c sp < spaceSize c sp ∧
    (i < spaceSize c sp → memRead c m sp i = wordAt c m sp i)

/-! ## Registers -/

/-- The layer register writes: the addressed register takes the addressed lanes, nothing else changes (R44, R74, R81). -/
def Obligations.LayerRegisterWrites : Prop :=
  ∀ (data : Word) (lanes : Lanes) (s : State), ∀ p ∈ layerWrites data lanes,
    ∃ t, exec p.1 s = .next t ∧ t = { s with layer := t.layer } ∧
      ∀ k, t.layer.get k =
        if k = p.2 then (s.layer.get k &&& ~~~lanemask lanes) ||| (data &&& lanemask lanes) else s.layer.get k

/-- The `ROZCTRL` writes, named and spare: the addressed word takes the addressed lanes, nothing else changes (R44, R96, R114). -/
def Obligations.RozctrlWrites : Prop :=
  ∀ (data : Word) (lanes : Lanes) (s : State),
    (∀ p ∈ rozctrlWrites data lanes,
      ∃ t, exec p.1 s = .next t ∧ t = { s with rozctrl := t.rozctrl } ∧
        ∀ j : Fin 32, t.rozctrl[j] =
          if j = p.2 then (s.rozctrl[j] &&& ~~~lanemask lanes) ||| (data &&& lanemask lanes) else s.rozctrl[j]) ∧
    ∀ k : BitVec 4, ∃ t, exec (.wrRozctrlSpare k data lanes) s = .next t ∧ t = { s with rozctrl := t.rozctrl } ∧
      ∀ j : Fin 32, t.rozctrl[j] =
        if j.val = 16 + k.toNat then (s.rozctrl[j] &&& ~~~lanemask lanes) ||| (data &&& lanemask lanes) else s.rozctrl[j]

/-- R132: the CRTC writes. With lanes 0 and 1 clear, no effect; else the addressed register takes the addressed lanes, and a control
write then propagates the flip and recomputes, a width write recomputes, a porch write is logged. -/
def Obligations.CrtcWrites : Prop :=
  ∀ (data : Word) (lanes : Lanes) (s : State),
    let merged := fun old : Half =>
      (old &&& ~~~(lanemask lanes).extractLsb' 0 16) ||| (data.extractLsb' 0 16 &&& (lanemask lanes).extractLsb' 0 16)
    (∀ p ∈ geometryWrites data lanes,
      exec p.1 s = .next (if lanes.extractLsb' 0 2 = 0 then s
        else
          let u := { s with crtc := s.crtc.set p.2 (merged (s.crtc.get p.2)) }
          let f := u.crtc.ctrl.getLsbD 0
          recompute cfg (if p.2 = .ctrl then { u with flipX := ⟨f, f, f, f⟩, flipY := ⟨f, f, f, f⟩ } else u))) ∧
    ∀ p ∈ porchWrites data lanes,
      exec p.1 s = .next (if lanes.extractLsb' 0 2 = 0 then s
        else { s with
          crtc := s.crtc.set p.2.1 (merged (s.crtc.get p.2.1))
          diagLog := s.diagLog ++ [.porch p.2.2 (merged (s.crtc.get p.2.1))] })

/-- R129 and R179: recomputation sets the geometry to the clamped widths and their totals, the refresh rate to the selected clock over
the totals, and appends one `DIAG_GEOMETRY_CLAMP` with the widths before clamping exactly when one of them is out of bounds. -/
def Obligations.RecomputeGeometry : Prop :=
  ∀ (c : Cfg) (s : State),
    let HB : Int := 0x1000 - (s.crtc.hblank.toNat : Int)
    let HD : Int := 0x1000 - (s.crtc.hdisp.toNat : Int)
    let VB : Int := 0x1000 - (s.crtc.vblank.toNat : Int)
    let VD : Int := 0x1000 - (s.crtc.vdisp.toNat : Int)
    let t := recompute c s
    t = { s with geom := t.geom, refresh := t.refresh, diagLog := t.diagLog } ∧
    (t.geom.visW : Int) = max HD 1 ∧ (t.geom.visH : Int) = max VD 1 ∧
    (t.geom.hTotal : Int) = max HB 0 + max HD 1 ∧ (t.geom.vTotal : Int) = max VB 0 + max VD 1 ∧
    t.refresh = (if s.crtc.ctrl.getLsbD 1 then c.pixclk1 else c.pixclk0) / ((t.geom.hTotal : Rat) * (t.geom.vTotal : Rat)) ∧
    t.diagLog = s.diagLog ++
      if HD < 1 ∨ VD < 1 ∨ HB < 0 ∨ VB < 0 then [.geometryClamp HB HD VB VD] else []

/-- R169: whatever the registers hold, a recomputed total is in 1..0x2000 and no less than the visible size. -/
def Obligations.GeometryBounds : Prop :=
  ∀ (c : Cfg) (s : State),
    let g := (recompute c s).geom
    1 ≤ g.visW ∧ g.visW ≤ g.hTotal ∧ g.hTotal ≤ 0x2000 ∧ 1 ≤ g.visH ∧ g.visH ≤ g.vTotal ∧ g.vTotal ≤ 0x2000

/-- R141: the source's example. The four width writes, from any state, give a visible area of 320 by 224 and a total period of 100992
pixel clocks of the selected rate. -/
def Obligations.SourceGeometryExample : Prop :=
  ∀ s : State, s.stream = [] →
    ∃ t, runWords s [0x19F0000100000FC0, 0x19F0000200000EC0, 0x19F0000300000FD9, 0x19F0000400000F20] = .next t ∧
      t.geom = ⟨320, 224, 384, 263⟩ ∧ t.geom.hTotal * t.geom.vTotal = 100992 ∧
      t.refresh = (if s.crtc.ctrl.getLsbD 1 then cfg.pixclk1 else cfg.pixclk0) / 100992 ∧
      t.crtc = { s.crtc with hblank := 0x0FC0, hdisp := 0x0EC0, vblank := 0x0FD9, vdisp := 0x0F20 }

/-- R159: the brightness writes. With lanes 0 and 1 clear, no effect; else the register takes the addressed lanes, and when it is of
`BRIGHT_BANK` and changed, the three scales are recomputed from that bank. -/
def Obligations.BrightnessWrites : Prop :=
  ∀ (data : Word) (lanes : Lanes) (s : State), ∀ p ∈ brightnessWrites data lanes,
    let old := s.brt.get p.2.1 p.2.2
    let mask := (lanemask lanes).extractLsb' 0 16
    let new := (old &&& ~~~mask) ||| (data.extractLsb' 0 16 &&& mask)
    ∃ t, exec p.1 s = .next t ∧
      if lanes.extractLsb' 0 2 = 0 then t = s
      else
        t = { s with brt := t.brt, scales := t.scales } ∧
        (∀ b r, t.brt.get b r = if b = p.2.1 ∧ r = p.2.2 then new else s.brt.get b r) ∧
        if p.2.1 = cfg.brightBank ∧ new ≠ old then
          t.scales.r = 256 - ((t.brt.get p.2.1 .r0).extractLsb' 8 8).toNat ∧
          t.scales.g = 256 - ((t.brt.get p.2.1 .r0).extractLsb' 0 8).toNat ∧
          t.scales.b = 256 - ((t.brt.get p.2.1 .r1).extractLsb' 0 8).toNat
        else t.scales = s.scales

/-- R201: a brightness write of the value the register already holds does nothing. -/
def Obligations.UnchangedBrightnessWriteDoesNothing : Prop :=
  ∀ (data : Word) (lanes : Lanes) (s : State), ∀ p ∈ brightnessWrites data lanes,
    (∀ k, k < 2 → lanes.getLsbD k = true →
      data.extractLsb' (8 * k) 8 = (s.brt.get p.2.1 p.2.2).extractLsb' (8 * k) 8) →
    exec p.1 s = .next s

/-- R196: the four writes that set bank `BRIGHT_BANK` to `(v0, v1)` from any prior state, whatever the scales and registers were. -/
def Obligations.BrightnessSetupSequence : Prop :=
  ∀ (s : State) (v0 v1 : Half), s.stream = [] →
    ∃ t, runWords s ((brightSetup (match cfg.brightBank with | .b0 => 0 | .b1 => 2) v0 v1).map assemble) = .next t ∧
      t = { s with brt := t.brt, scales := t.scales } ∧
      t.brt.get cfg.brightBank .r0 = v0 ∧ t.brt.get cfg.brightBank .r1 = v1 ∧
      t.scales = ⟨256 - (v0.extractLsb' 8 8).toNat, 256 - (v0.extractLsb' 0 8).toNat, 256 - (v1.extractLsb' 0 8).toNat⟩

/-! ## Palette -/

/-- R155: the colour of an entry at a `RENDER`, from the two words of `PALRAM` and the scales, in exact integer arithmetic. -/
def Obligations.PaletteConversion : Prop :=
  ∀ (c : Cfg) (s : State) (i : Nat), ScalesOk s.scales →
    let w0 := (memRead c s.mem .palram (2 * i)).extractLsb' 0 16
    let w1 := (memRead c s.mem .palram (2 * i + 1)).extractLsb' 0 16
    let r := (w0.extractLsb' 8 8).toNat
    let g := (w0.extractLsb' 0 8).toNat
    let b := (w1.extractLsb' 0 8).toNat
    let o := convert c (latchPalette s) i
    if i.testBit 14 then o.r.toNat = r ∧ o.g.toNat = g ∧ o.b.toNat = b
    else o.r.toNat = r * s.scales.r / 256 ∧ o.g.toNat = g * s.scales.g / 256 ∧ o.b.toNat = b * s.scales.b / 256

/-- R158: scale 256 leaves a channel as it is, scales 0 and 1 black it out, and an index with bit 14 set is never scaled. -/
def Obligations.BrightnessExtremes : Prop :=
  (∀ ch : Byte, scaleChannel ch 256 = ch ∧ scaleChannel ch 0 = 0 ∧ scaleChannel ch 1 = 0) ∧
  (∀ (c : Cfg) (p : PalLatch) (i : Nat), i.testBit 14 = true → convert c p i = rawRgb c p i) ∧
  ∀ (c : Cfg) (ram : Memory) (i : Nat), convert c ⟨ram, ⟨256, 256, 256⟩⟩ i = rawRgb c ⟨ram, ⟨256, 256, 256⟩⟩ i

/-- R156: the mixer drops bit 15 of a palette index, and bit 14 of the index decides whether the entry is scaled. -/
def Obligations.PaletteIndexBits : Prop :=
  ∀ (c : Cfg), c.Legal → ∀ (p : PalLatch) (idx : Half),
    palRgb c p idx = convert c p (idx.toNat % 0x8000) ∧
    palRgb c p (idx ||| 0x8000) = palRgb c p (idx &&& 0x7FFF) ∧
    (idx.getLsbD 14 = true → palRgb c p idx = rawRgb c p (idx.toNat % 0x8000))

/-! ## Sprites -/

/-- R118: a `VBLANK`, whatever its low bits, copies every word of `SPR_LIVE` into `SPR_DISP`; `SPR_LIVE`, every other space and all
other state are as before, and a second one leaves the same words when any `n` delivered words stand between the two, none of them a
`WR_SPRRAM`. -/
def Obligations.VblankLatchesSprites : Prop :=
  (∀ w : OpWord, fieldOpc w = 2 → decode w = .vblank) ∧
  ∀ s : State, ∃ t, exec .vblank s = .next t ∧ t = { s with mem := t.mem } ∧
    (∀ sp, sp ≠ .sprDisp → t.mem.get sp = s.mem.get sp) ∧
    (∀ i, i < 8 * cfg.sprEntries → wordAt cfg t.mem .sprDisp i = wordAt cfg s.mem .sprLive i) ∧
    (∀ a, 32 * cfg.sprEntries ≤ a → byteAt cfg t.mem .sprDisp a = byteAt cfg s.mem .sprDisp a) ∧
    ∀ n, n ≤ t.stream.length → (∀ w ∈ t.stream.take n, ∀ off data lanes, decode w ≠ .wrSprram off data lanes) →
      ∃ u, runSteps n t = .next u ∧
        ∃ v, exec .vblank u = .next v ∧ ∀ i, wordAt cfg v.mem .sprDisp i = wordAt cfg t.mem .sprDisp i

/-- R118 with the canonical form: in a state of a run, a second `VBLANK` changes nothing at all. -/
def Obligations.SecondVblankChangesNothing : Prop :=
  ∀ s t : State, Inv cfg s → exec .vblank s = .next t → exec .vblank t = .next t

/-- R122: an entry that is disabled or has a zero zoom contributes nothing, under every layout and blit: the walk leaves what it leaves
without it. -/
def Obligations.SkippedSpriteDrawsNothing : Prop :=
  ∀ (c : Cfg) (m : Storage) (k : Clip) (sc : Scratch) (before after : List Nat) (e : Nat),
    ((spriteEntry c m e).disable = true ∨ (spriteEntry c m e).xzoom = 0 ∨ (spriteEntry c m e).yzoom = 0) →
    (before ++ e :: after).foldl (drawSprite c m k) sc = (before ++ after).foldl (drawSprite c m k) sc

/-- R125: at a pixel, the last entry of the walk that covers it decides the colour and the priority; where none covers it, both are as
before. -/
def Obligations.LastSpriteOfWalkWins : Prop :=
  ∀ (c : Cfg), c.Legal → ∀ (m : Storage) (k : Clip) (sc : Scratch) (x y : Nat), ClipIn c k → x < c.outW →
    (∀ before e after palidx, spriteOrder c = before ++ e :: after → SpriteCovers c m k e x y palidx →
      (∀ e' ∈ after, ∀ q, ¬ SpriteCovers c m k e' x y q) →
      sprColorAt c (drawSprites c m k sc) x y = palidx ∧
      sprPriAt c (drawSprites c m k sc) x y = (spriteEntry c m e).pri % 2 ^ c.sprPriBits) ∧
    ((∀ e ∈ spriteOrder c, ∀ q, ¬ SpriteCovers c m k e x y q) →
      sprColorAt c (drawSprites c m k sc) x y = sprColorAt c sc x y ∧
      sprPriAt c (drawSprites c m k sc) x y = sprPriAt c sc x y)

/-- R125: `SPR_ORDER` walks every entry once, upwards or downwards. -/
def Obligations.SpriteWalkOrder : Prop :=
  ∀ (c : Cfg), (∀ e, e ∈ spriteOrder c ↔ e < c.sprEntries) ∧
    (c.sprOrder = .ascending → (spriteOrder c).Pairwise (· < ·)) ∧
    (c.sprOrder = .descending → (spriteOrder c).Pairwise (· > ·))

/-- R127: sprites change no pixel outside the clip and no tile buffer. -/
def Obligations.SpritesStayInClip : Prop :=
  ∀ (c : Cfg), c.Legal → ∀ (m : Storage) (k : Clip) (sc : Scratch), ClipIn c k →
    (drawSprites c m k sc).tileColor = sc.tileColor ∧ (drawSprites c m k sc).tileTag = sc.tileTag ∧
    ∀ x y, x < c.outW → ¬ k.Holds x y →
      sprColorAt c (drawSprites c m k sc) x y = sprColorAt c sc x y ∧
      sprPriAt c (drawSprites c m k sc) x y = sprPriAt c sc x y

/-- R123 item 4, as log 7 reads it: on each axis a flip either shows the sprite of the mirrored graphics, or mirrors the pixels of the
sprite within a box that both the flipped and the unflipped sprite stay in, wherever on the screen it is. -/
def Obligations.FlipMirrorsSprite : Prop :=
  ∀ (c : Cfg), c.Legal → ∀ e : SpriteEntry, 0 < e.xzoom → 0 < e.yzoom →
    ((∃ a : Int, ∀ gfx k p, p ∈ c.sprBlit gfx { e with flipx := true } k ↔
        p ∈ c.sprBlit (fun code color px py => gfx code color (a - px) py) { e with flipx := false } k) ∨
      ∃ (o : Int) (w : Nat), ∀ (gfx : SprGfx) (k : Clip) (sx : Int),
        (∀ b, ∀ p ∈ c.sprBlit gfx { e with sx := sx, flipx := b } k, sx + o ≤ p.x ∧ p.x < sx + o + w) ∧
        ∀ (x x' y : Nat) (q : Half), k.Holds x y → k.Holds x' y → (x : Int) + x' = 2 * (sx + o) + w - 1 →
          (⟨x, y, q⟩ ∈ c.sprBlit gfx { e with sx := sx, flipx := true } k ↔
            ⟨x', y, q⟩ ∈ c.sprBlit gfx { e with sx := sx, flipx := false } k)) ∧
    ((∃ a : Int, ∀ gfx k p, p ∈ c.sprBlit gfx { e with flipy := true } k ↔
        p ∈ c.sprBlit (fun code color px py => gfx code color px (a - py)) { e with flipy := false } k) ∨
      ∃ (o : Int) (h : Nat), ∀ (gfx : SprGfx) (k : Clip) (sy : Int),
        (∀ b, ∀ p ∈ c.sprBlit gfx { e with sy := sy, flipy := b } k, sy + o ≤ p.y ∧ p.y < sy + o + h) ∧
        ∀ (x y y' : Nat) (q : Half), k.Holds x y → k.Holds x y' → (y : Int) + y' = 2 * (sy + o) + h - 1 →
          (⟨x, y, q⟩ ∈ c.sprBlit gfx { e with sy := sy, flipy := true } k ↔
            ⟨x, y', q⟩ ∈ c.sprBlit gfx { e with sy := sy, flipy := false } k))

/-- R123 item 5, as log 7 reads it: a sprite of opaque graphics covers exactly the places of a box in the clip, whatever its flips. On
each axis the box follows the size and the zoom of that axis alone: its length is the size in graphics pixels times a positive scale,
to within a pixel, and the scale rises strictly with the zoom or falls strictly with it. -/
def Obligations.ZoomScalesSprite : Prop :=
  ∀ (c : Cfg), c.Legal →
    let follows := fun (scale : Nat → Rat) (extent : Nat → Nat → Nat) (unit : Nat) =>
      0 < unit ∧ (∀ z, 0 < z → 0 < scale z) ∧
      ((∀ z z', 0 < z → z < z' → scale z < scale z') ∨ ∀ z z', 0 < z → z < z' → scale z' < scale z) ∧
      ∀ size z, 0 < z → |(extent size z : Rat) - unit * size * scale z| < 1
    ∃ (ux uy : Nat) (scaleX scaleY : Nat → Rat) (width height : Nat → Nat → Nat) (ox oy : Nat → Nat → Int),
      follows scaleX width ux ∧ follows scaleY height uy ∧
      ∀ (gfx : SprGfx) (e : SpriteEntry) (k : Clip) (x y : Nat),
        (∀ code color px py, (gfx code color px py).1 ≠ c.sprTranspen) → 0 < e.xzoom → 0 < e.yzoom → k.Holds x y →
        let left := e.sx + ox e.xsize e.xzoom
        let top := e.sy + oy e.ysize e.yzoom
        ((∃ q, ⟨x, y, q⟩ ∈ c.sprBlit gfx e k) ↔
          left ≤ x ∧ x < left + width e.xsize e.xzoom ∧ top ≤ y ∧ y < top + height e.ysize e.yzoom)

/-- R123 and R124: the reference blit meets the contract that every blit must meet (in the reading of items 4 and 5 of log 7). -/
def Obligations.ReferenceBlitMeetsContract : Prop :=
  ∀ (c : Cfg), c.sprBlit = blitRef c.sprTranspen → BlitContract c

/-- R154 and R149: the reference configuration meets every requirement of a configuration, and an all-zero `PRIRAM` gives the slots
text 0, background 1, ROZ 2. -/
def Obligations.ReferenceConfigurationLegal : Prop :=
  cfgRef.Legal ∧ ∀ m : Storage, (∀ i, wordAt cfgRef m .priram i = 0) → resolveSlots cfgRef m = ⟨0, 1, 2⟩

/-! ## Tile layers -/

/-- R84 and R85: the draw of TX, BG or BGALT. The source coordinate wraps in both axes; an opaque pixel of the clip stamps its palette
index and the tag, and every other pixel of both buffers, and both sprite buffers, are as before. -/
def Obligations.ScrollLayerDraw : Prop :=
  ∀ (c : Cfg), c.Legal → ∀ (s : State) (L : ScrollLayer) (tag : BitVec 3) (k : Clip) (sc : Scratch) (x y u v : Nat),
    let lay := scrollLayer L
    let xs : Int := if s.flipX.get lay then (s.geom.visW : Int) - 1 - x else x
    let ys : Int := if s.flipY.get lay then (s.geom.visH : Int) - 1 - y else y
    ClipIn c k → x < c.outW →
    (u : Int) = (xs + ((scrollX s.layer L).toNat : Int)) % ((c.cols lay * c.tw lay : Nat) : Int) →
    (v : Int) = (ys + ((scrollY s.layer L).toNat : Int)) % ((c.rows lay * c.th lay : Nat) : Int) →
    let cell := v / c.th lay * c.cols lay + u / c.tw lay
    let even := memRead c s.mem (tableSpace c lay) (2 * cell)
    let odd := memRead c s.mem (tableSpace c lay) (2 * cell + 1)
    let g := c.tileGfx lay (even.extractLsb' 0 16) ((odd.extractLsb' 0 4).toNat + c.colorBank lay) (u % c.tw lay) (v % c.th lay)
    let t := drawScroll c s L tag k sc
    (t.sprColor = sc.sprColor ∧ t.sprPri = sc.sprPri) ∧
    if k.Holds x y ∧ g.1 ≠ c.transpen lay then tileColorAt c t x y = g.2 ∧ tileTagAt c t x y = tag
    else tileColorAt c t x y = tileColorAt c sc x y ∧ tileTagAt c t x y = tileTagAt c sc x y

/-- R83: a flipped layer samples at a pixel of the visible rectangle what the unflipped one samples at the mirrored pixel. -/
def Obligations.FlipMirrorsLayer : Prop :=
  ∀ (c : Cfg) (s : State) (L : ScrollLayer) (x y : Nat), x < s.geom.visW → y < s.geom.visH →
    scrollCoord c (s.setFlips true) L x y =
      scrollCoord c (s.setFlips false) L (s.geom.visW - 1 - x) (s.geom.visH - 1 - y)

/-- R87 and R167: every source coordinate lies inside its plane and every cell inside its grid, flipped or not, for TX, BG, BGALT and
ROZ in both modes. -/
def Obligations.CoordinatesStayInPlane : Prop :=
  ∀ (c : Cfg), c.Legal → ∀ (s : State) (x y : Nat),
    (∀ L : ScrollLayer, let lay := scrollLayer L
      let q := scrollCoord c s L x y
      q.1 < c.cols lay * c.tw lay ∧ q.2 < c.rows lay * c.th lay ∧ cellOf c lay q.1 q.2 < c.cols lay * c.rows lay) ∧
    let q := rozCoord c s x y
    q.1 < c.cols .roz * c.tw .roz ∧ q.2 < c.rows .roz * c.th .roz ∧ cellOf c .roz q.1 q.2 < c.cols .roz * c.rows .roz

/-! ## ROZ -/

/-- R14, R59 and R88: an 18-bit field is the low half word with the two low bits of the high word above it, read as two's
complement. -/
def Obligations.RozFieldSignExtends : Prop :=
  ∀ lo hi : Word,
    let v : Nat := lo.toNat % 2 ^ 16 + 2 ^ 16 * (hi.toNat % 4)
    field18 lo hi = (if v < 2 ^ 17 then (v : Int) else (v : Int) - 2 ^ 18) ∧
    -131072 ≤ field18 lo hi ∧ field18 lo hi ≤ 131071

/-- R91, R92 and R93: the source pixel of the ROZ layer in both modes and under every flip mode. -/
def Obligations.RozCoordinates : Prop :=
  ∀ (c : Cfg) (s : State) (x y : Nat), c.Legal →
    let z := s.rozctrl
    let xd : Int := if c.rozFlipMode = .screenMirror ∧ s.flipX.roz = true then (s.geom.visW : Int) - 1 - x else x
    let yd : Int := if c.rozFlipMode = .screenMirror ∧ s.flipY.roz = true then (s.geom.visH : Int) - 1 - y else y
    let one : Int := 2 ^ c.rozFracBits
    let offX : Int := (z[12].toNat : Int) + if z[14].getLsbD 0 then (c.rozOffsetBias : Int) else 0
    let offY : Int := (z[13].toNat : Int) + if z[15].getLsbD 0 then (c.rozOffsetBias : Int) else 0
    let n := (yd % 256).toNat
    let line := fun j => memRead c s.mem .lineram (8 * n + j)
    let UF : Int :=
      if z[23].getLsbD 0 then (field18 (line 0) (line 1) + field18 z[0] z[1] + offX) * one + xd * field18 (line 4) (line 5)
      else (field18 z[0] z[1] + offX) * one + xd * field18 z[4] z[5] + yd * field18 z[10] z[11]
    let VF : Int :=
      if z[23].getLsbD 0 then (field18 (line 2) (line 3) + field18 z[2] z[3] + offY) * one + xd * field18 (line 6) (line 7)
      else (field18 z[2] z[3] + offY) * one + xd * field18 z[6] z[7] + yd * field18 z[8] z[9]
    let PW : Int := ((c.cols .roz * c.tw .roz : Nat) : Int)
    let PH : Int := ((c.rows .roz * c.th .roz : Nat) : Int)
    let q := rozCoord c s x y
    (q.1 : Int) = (if c.rozFlipMode = .planeMirror ∧ s.flipX.roz = true then PW - 1 - UF / one % PW else UF / one % PW) ∧
    (q.2 : Int) = (if c.rozFlipMode = .planeMirror ∧ s.flipY.roz = true then PH - 1 - VF / one % PH else VF / one % PH)

/-- R92: in simple mode with an increment matrix of one source pixel per destination pixel and no flip, the ROZ layer scrolls by its
start and offset. -/
def Obligations.RozUnitMatrixScrolls : Prop :=
  ∀ (c : Cfg) (s : State) (x y : Nat), c.Legal → s.rozctrl[23].getLsbD 0 = false →
    s.flipX.roz = false → s.flipY.roz = false →
    rozIncXX s.rozctrl = 0x100 → rozIncYY s.rozctrl = 0x100 → rozIncXY s.rozctrl = 0 → rozIncYX s.rozctrl = 0 →
    ((rozCoord c s x y).1 : Int) =
      (rozStartX s.rozctrl + rozOffX c s.rozctrl + x) % ((c.cols .roz * c.tw .roz : Nat) : Int) ∧
    ((rozCoord c s x y).2 : Int) =
      (rozStartY s.rozctrl + rozOffY c s.rozctrl + y) % ((c.rows .roz * c.th .roz : Nat) : Int)

/-- R94 and R95: the draw of the ROZ layer samples its source pixel's cell, stamps the opaque pixels of the clip and leaves everything
else in the buffers as it was. -/
def Obligations.RozLayerDraw : Prop :=
  ∀ (c : Cfg), c.Legal → ∀ (s : State) (tag : BitVec 3) (k : Clip) (sc : Scratch) (x y : Nat), ClipIn c k → x < c.outW →
    let u := (rozCoord c s x y).1
    let v := (rozCoord c s x y).2
    let cell := v / c.th .roz * c.cols .roz + u / c.tw .roz
    let even := memRead c s.mem .rozram (2 * cell)
    let odd := memRead c s.mem .rozram (2 * cell + 1)
    let g := c.tileGfx .roz (even.extractLsb' 0 16) ((odd.extractLsb' 0 4).toNat + c.colorBank .roz) (u % c.tw .roz) (v % c.th .roz)
    let t := drawRoz c s tag k sc
    (t.sprColor = sc.sprColor ∧ t.sprPri = sc.sprPri) ∧
    if k.Holds x y ∧ g.1 ≠ c.transpen .roz then tileColorAt c t x y = g.2 ∧ tileTagAt c t x y = tag
    else tileColorAt c t x y = tileColorAt c sc x y ∧ tileTagAt c t x y = tileTagAt c sc x y

/-- R65: the two words of `WRROZ` set the field to the value, for every value a field can hold. -/
def Obligations.WrrozSetsField : Prop :=
  ∀ (s : State) (f : RozField) (v : Int), s.stream = [] → -131072 ≤ v → v ≤ 131071 →
    ∃ t, runWords s ((expand (.wrroz f v)).map assemble) = .next t ∧
      (match f with
        | .startX => rozStartX t.rozctrl
        | .startY => rozStartY t.rozctrl
        | .incXX => rozIncXX t.rozctrl
        | .incXY => rozIncXY t.rozctrl
        | .incYY => rozIncYY t.rozctrl
        | .incYX => rozIncYX t.rozctrl) = v

/-! ## Priority mixer -/

/-- R148: bit `i` of the mask is test `i`: whether the half word at `(sp | PRI_BASE[i]) mod PRI_WORDS` has a bit of
`PRI_PATTERN[i]`. -/
def Obligations.MaskBitIsTest : Prop :=
  ∀ (c : Cfg) (m : Storage) (sp : Nat) (i : Fin 8),
    (pixelMask c m sp).getLsbD i.val =
      decide ((memRead c m .priram ((sp ||| c.priBase i) % c.priWords)).extractLsb' 0 16 &&& c.priPattern i ≠ 0)

/-- R146: a slot is the number of increments its counter gets from the checks that hit and those that miss. -/
def Obligations.SlotsCountIncrements : Prop :=
  ∀ (c : Cfg) (m : Storage),
    let lists := fun k : SlotCheck =>
      if (memRead c m .priram k.cell).extractLsb' 0 16 &&& k.cmpmask = k.sentinel then k.onMatch else k.onMiss
    resolveSlots c m =
      ⟨(c.slotProgram.flatMap lists).count .asc, (c.slotProgram.flatMap lists).count .scrl,
        (c.slotProgram.flatMap lists).count .rot⟩

/-- R147 and R86: the layers drawn are the candidates whose slot value is at most 3, in slot order and, within a slot, ROZ before
background before text; under `FIRST_ONLY` one a slot. The background layer is the one `BG_LAYOUT[0]` names. -/
def Obligations.DrawOrderIsSlotOrder : Prop :=
  ∀ (c : Cfg) (r : LayerRegs) (t : Slots),
    let bgl : ScrollLayer := if r.bgLayout.getLsbD 0 then .bgalt else .bg
    let all : List (DrawTarget × Nat × BitVec 3) :=
      [(.roz, t.rot, c.tagRoz), (.scroll bgl, t.scrl, c.tagBg), (.scroll .tx, t.asc, c.tagTx)]
    (∀ e ∈ drawOrder c r t, e ∈ all ∧ e.2.1 ≤ 3) ∧
    (drawOrder c r t).Pairwise (fun a b => a.2.1 < b.2.1 ∨ a.2.1 = b.2.1 ∧ all.idxOf a < all.idxOf b) ∧
    (c.slotTieMode = .drawAll → ∀ e ∈ all, e.2.1 ≤ 3 → e ∈ drawOrder c r t) ∧
    (c.slotTieMode = .firstOnly → ∀ e ∈ all, e.2.1 ≤ 3 →
      (e ∈ drawOrder c r t ↔ ∀ e' ∈ all, e'.2.1 = e.2.1 → all.idxOf e ≤ all.idxOf e'))

/-! ## The frame -/

/-- R143, R145 and R150: a `RENDER` always completes with `OK`, and is the frame over its clip clamped to the bitmap (what the frame
leaves in the scratch buffers is TopmostOpaqueLayerShows). It changes nothing but the bitmap, the scratch buffers, the palette,
the diagnostics and the status; inside the clamped clip every pixel is the colour its rule gives, outside it no pixel changes. That
the palette is held as a latch of `PALRAM` and the scales is the model's form of R35 (log 10), and that the status is held in the state
is the model's choice (log 11). -/
def Obligations.RenderWritesClampedClip : Prop :=
  ∀ (minx maxx miny maxy : BitVec 12) (s : State),
    ∃ t, exec (.render minx maxx miny maxy) s = .next t ∧
      t = renderClip cfg ⟨minx.toNat, min maxx.toNat (cfg.outW - 1), miny.toNat, min maxy.toNat (cfg.outH - 1)⟩ s ∧
      t = { s with palLatch := t.palLatch, scratch := t.scratch, out := t.out, diagLog := t.diagLog,
                   unhandledCount := t.unhandledCount, renderStatus := some .ok } ∧
      t.palLatch = ⟨s.mem.palram, s.scales⟩ ∧
      ∀ x y, x < cfg.outW → y < cfg.outH →
        if minx.toNat ≤ x ∧ x ≤ maxx.toNat ∧ miny.toNat ≤ y ∧ y ≤ maxy.toNat then
          let tc := tileColorAt cfg t.scratch x y
          let sc := sprColorAt cfg t.scratch x y
          let tile := convert cfg t.palLatch (tc.toNat % cfg.palEntries)
          match cfg.priLut (pixelMask cfg s.mem (sprPriAt cfg t.scratch x y)) (tileTagAt cfg t.scratch x y) with
          | .showSpriteIfOpaque =>
            outAt cfg t.out x y =
              if sc.extractLsb' 0 8 ≠ 0 then convert cfg t.palLatch (sc.toNat % cfg.palEntries) else tile
          | .alwaysTile => outAt cfg t.out x y = tile
          | .alphaBlendTile f =>
            (outAt cfg t.out x y).r.toNat = tile.r.toNat * f / 256 ∧
            (outAt cfg t.out x y).g.toNat = tile.g.toNat * f / 256 ∧
            (outAt cfg t.out x y).b.toNat = tile.b.toNat * f / 256
          | .unhandled => outAt cfg t.out x y = ⟨0xFF, 0x00, 0xFF⟩
        else outAt cfg t.out x y = outAt cfg s.out x y

/-- R85, R125, R144 and R150: what the scratch buffers hold at a pixel of the clip after a frame. The tile pixel is that of the last
opaque layer of the draw order, 0 with tag 0 where none is opaque; the sprite pixel is that of the last entry of the walk that covers
it, 0 where none does. -/
def Obligations.TopmostOpaqueLayerShows : Prop :=
  ∀ (c : Cfg), c.Legal → ∀ (s : State) (k : Clip) (x y : Nat), ClipIn c k → k.Holds x y →
    let order := drawOrder c s.layer (resolveSlots c s.mem)
    let sc := (renderClip c k s).scratch
    (∀ before e after, order = before ++ e :: after → Opaque c s e.1 x y → (∀ e' ∈ after, ¬ Opaque c s e'.1 x y) →
      tileColorAt c sc x y = (targetSample c s e.1 x y).2 ∧ tileTagAt c sc x y = e.2.2) ∧
    ((∀ e ∈ order, ¬ Opaque c s e.1 x y) → tileColorAt c sc x y = 0 ∧ tileTagAt c sc x y = 0) ∧
    (∀ before e after q, spriteOrder c = before ++ e :: after → SpriteCovers c s.mem k e x y q →
      (∀ e' ∈ after, ∀ q', ¬ SpriteCovers c s.mem k e' x y q') →
      sprColorAt c sc x y = q ∧ sprPriAt c sc x y = (spriteEntry c s.mem e).pri % 2 ^ c.sprPriBits) ∧
    ((∀ e ∈ spriteOrder c, ∀ q, ¬ SpriteCovers c s.mem k e x y q) → sprColorAt c sc x y = 0 ∧ sprPriAt c sc x y = 0)

/-- R152, R24, R34 and R114: two states that agree on what a `RENDER` reads give the same pixels inside the clip, whatever the live
sprite buffer, the spare registers, the earlier frames and the diagnostics hold, and count the same unhandled pixels. -/
def Obligations.FrameDependsOnInputsOnly : Prop :=
  ∀ (c : Cfg), c.Legal → ∀ (s t : State) (k : Clip), ClipIn c k → SameInputs s t →
    (∀ x y, k.Holds x y → outAt c (renderClip c k s).out x y = outAt c (renderClip c k t).out x y) ∧
    (renderClip c k s).palLatch = (renderClip c k t).palLatch ∧
    (renderClip c k s).unhandledCount + t.unhandledCount = (renderClip c k t).unhandledCount + s.unhandledCount

/-- R151, R180 and R181: a `RENDER` counts every pixel that resolves to `Unhandled`, and appends one record for each distinct mask among
them, that of the mask's first pixel in row-major order, in that order. -/
def Obligations.UnhandledPixelsCountedAndLogged : Prop :=
  ∀ (c : Cfg) (s : State) (k : Clip),
    let t := renderClip c k s
    let bad := unhandledPixels c s.mem t.scratch k
    let maskOf := fun q => (pixelCase c s.mem t.scratch q).1
    let tagOf := fun q => (pixelCase c s.mem t.scratch q).2
    t.unhandledCount = s.unhandledCount + bad.length ∧
    ∃ firsts : List (Nat × Nat), firsts.Sublist bad ∧ (firsts.map maskOf).Nodup ∧
      (∀ before q after, bad = before ++ q :: after → (q ∈ firsts ↔ ∀ q' ∈ before, maskOf q' ≠ maskOf q)) ∧
      t.diagLog = s.diagLog ++ firsts.map fun q => .unhandledMask (maskOf q) (tagOf q) q.1 q.2

/-- R153: with an all-zero `PRIRAM`, every sprite skipped, and only the background slot's layer opaque over the clip, with palette index
`P` everywhere, every pixel of the clip is the converted colour of `P`, under every legal configuration. -/
def Obligations.AllZeroPriorityShowsBackground : Prop :=
  ∀ (c : Cfg), c.Legal → ∀ (s : State) (k : Clip) (P : Half), ClipIn c k →
    (∀ i, i < c.priWords → wordAt c s.mem .priram i = 0) →
    (∀ e, e < c.sprEntries → spriteSkipped (spriteEntry c s.mem e) = true) →
    (∀ x y, k.Holds x y → Opaque c s (.scroll (backgroundLayer s.layer)) x y ∧
      (targetSample c s (.scroll (backgroundLayer s.layer)) x y).2 = P ∧
      ¬ Opaque c s (.scroll .tx) x y ∧ ¬ Opaque c s .roz x y) →
    ∀ x y, k.Holds x y → outAt c (renderClip c k s).out x y = convert c ⟨s.mem.palram, s.scales⟩ (P.toNat % 0x8000)

/-- R51, R119 and R198: a write to sprite RAM is not seen by a `RENDER` before the next `VBLANK`: the frame is the one drawn without
it. -/
def Obligations.SpriteWriteUnseenBeforeVblank : Prop :=
  ∀ (off : Offset) (data : Word) (lanes : Lanes) (minx maxx miny maxy : BitVec 12) (s u t v : State),
    exec (.wrSprram off data lanes) s = .next u → exec (.render minx maxx miny maxy) s = .next t →
    exec (.render minx maxx miny maxy) u = .next v →
    v.out = t.out ∧ v.scratch = t.scratch ∧ v.unhandledCount = t.unhandledCount

/-! ## The whole machine -/

/-- With operation words delivered, a step takes the first, and is the operation it decodes to, run on the state with the rest still
delivered; with none delivered nothing changes (the model's choice: log 2). -/
def Obligations.StepRunsDecodedOperation : Prop :=
  (∀ (s : State) (i : Instr) (ws : List OpWord), i.wf = true → s.stream = encode i :: ws →
    step s = exec i { s with stream := ws }) ∧
  (∀ (s : State) (w : OpWord) (ws : List OpWord), s.stream = w :: ws → step s = exec (decode w) { s with stream := ws }) ∧
  ∀ s : State, s.stream = [] → step s = .next s

/-- No step is ever disabled: from any state any number of steps completes, each taking one delivered word. Up to the number of words
delivered this is R174 and R204; that a step with no word delivered completes too, changing nothing, is the model's choice (log 2,
DESIGN CHOICE). -/
def Obligations.RunsNeverStop : Prop :=
  ∀ (n : Nat) (s : State), ∃ t : State, runSteps n s = .next t ∧ t.stream = s.stream.drop n

/-- R49 and R204: operations take effect in stream order, one at a time. A run over delivered words is the words' operations applied
one after the other, and no operation sees or changes the words behind it. -/
def Obligations.WordsTakeEffectInOrder : Prop :=
  (∀ (i : Instr) (s : State) (q : List OpWord), ∃ t, exec i s = .next t ∧ t.stream = s.stream ∧
    exec i { s with stream := q } = .next { t with stream := q }) ∧
  ∀ (s : State) (w : OpWord) (ws : List OpWord), s.stream = [] →
    ∃ t, exec (decode w) s = .next t ∧ runWords s (w :: ws) = runWords t ws

/-- The invariant is kept by every step from every state that has it. -/
def Obligations.EveryStepKeepsInvariant : Prop :=
  ∀ s t : State, Inv cfg s → step s = .next t → Inv cfg t

/-- The invariant holds at the start of a run. -/
def Obligations.ResetHasInvariant : Prop := Inv cfg State.reset

/-- R36, R174 and R181: an operation only appends to the log; a `RENDER` appends `DIAG_UNHANDLED_MASK` records only, any other operation
at most one record of another code, a `VBLANK` none; the count never falls and only a `RENDER` changes it. -/
def Obligations.DiagnosticsOnlyAppended : Prop :=
  ∀ (i : Instr) (s t : State), exec i s = .next t →
    (∃ new, t.diagLog = s.diagLog ++ new ∧ (¬ IsRender i → new.length ≤ 1) ∧ (i = .vblank → new = [])) ∧
    (IsRender i → NoError [1, 2, 3, 4, 5] s t) ∧ (¬ IsRender i → NoError [6] s t) ∧
    s.unhandledCount ≤ t.unhandledCount ∧ (¬ IsRender i → t.unhandledCount = s.unhandledCount)

/-- No operation but a `RENDER` changes the bitmap, the scratch buffers or the palette (R199, R37, R143), which is held as the latch of
log 10. That none changes the status a `RENDER` returned either is the model's choice: no rule keeps that status in the state
(log 11, DESIGN CHOICE). -/
def Obligations.OnlyRenderChangesOut : Prop :=
  ∀ (i : Instr) (s t : State), ¬ IsRender i → exec i s = .next t →
    t.out = s.out ∧ t.scratch = s.scratch ∧ t.palLatch = s.palLatch ∧ t.renderStatus = s.renderStatus

/-- R22, R24 and R39: only a `VBLANK` changes `SPR_DISP`, only a `WR_SPRRAM` changes `SPR_LIVE`, and only a `WR_BGALTRAM` changes
`BGALTRAM`, and that under `SEPARATE` only. -/
def Obligations.SpriteBuffersAreOwned : Prop :=
  ∀ (i : Instr) (s t : State), exec i s = .next t →
    (i ≠ .vblank → t.mem.sprDisp = s.mem.sprDisp) ∧
    ((∀ off data lanes, i ≠ .wrSprram off data lanes) → t.mem.sprLive = s.mem.sprLive) ∧
    (t.mem.bgaltram = s.mem.bgaltram ∨
      cfg.bgaltTableMode = .separate ∧ ∃ off data lanes, i = .wrBgaltram off data lanes)

/-- R31: the scales change only when a register of bank `BRIGHT_BANK` changes, and then they are what that bank gives. -/
def Obligations.ScalesFollowSelectedBank : Prop :=
  ∀ (i : Instr) (s t : State), exec i s = .next t →
    if t.brt.get cfg.brightBank .r0 = s.brt.get cfg.brightBank .r0 ∧ t.brt.get cfg.brightBank .r1 = s.brt.get cfg.brightBank .r1
    then t.scales = s.scales
    else t.scales = ⟨256 - ((t.brt.get cfg.brightBank .r0).extractLsb' 8 8).toNat,
      256 - ((t.brt.get cfg.brightBank .r0).extractLsb' 0 8).toNat, 256 - ((t.brt.get cfg.brightBank .r1).extractLsb' 0 8).toNat⟩

/-- R32, R131 and R200: after an operation the flip bits are as before, or the operation was a `WR_CRTC_CTRL` and all eight are bit 0 of
the new `CRTC_CTRL`; the geometry changes under the five geometry writes only. -/
def Obligations.OnlyCrtcChangesFlipAndGeometry : Prop :=
  ∀ (i : Instr) (s t : State), exec i s = .next t →
    (t.flipX = s.flipX ∧ t.flipY = s.flipY ∨
      (∃ data lanes, i = .wrCrtcCtrl data lanes) ∧ ∀ L, t.flipX.get L = t.crtc.ctrl.getLsbD 0 ∧ t.flipY.get L = t.crtc.ctrl.getLsbD 0) ∧
    (t.geom = s.geom ∧ t.refresh = s.refresh ∨ ∃ data lanes, ∃ p ∈ geometryWrites data lanes, p.1 = i)

/-- R193 and R38: the start of a run. The log is empty, the count 0, the geometry the default one and `REFRESH` the first clock over its
total, under both profiles; under `ZERO` every word, register and flip bit is 0 and the scales are 256. -/
def Obligations.ResetValues : Prop :=
  (State.reset.diagLog = [] ∧ State.reset.unhandledCount = 0 ∧ State.reset.geom = cfg.defaultGeometry ∧
    State.reset.refresh = cfg.pixclk0 / ((cfg.defaultGeometry.hTotal : Rat) * (cfg.defaultGeometry.vTotal : Rat))) ∧
  ∀ c : Cfg, c.resetProfile = .zero →
    let s := State.resetOf c
    (∀ sp i, wordAt c s.mem sp i = 0) ∧ (∀ k : Fin 32, s.rozctrl[k] = 0) ∧
    (∀ k, s.layer.get k = 0) ∧ (∀ k, s.crtc.get k = 0) ∧ (∀ b r, s.brt.get b r = 0) ∧
    s.scales = ⟨256, 256, 256⟩ ∧ (∀ L, s.flipX.get L = false ∧ s.flipY.get L = false) ∧
    (∀ x y, tileColorAt c s.scratch x y = 0 ∧ tileTagAt c s.scratch x y = 0 ∧
      sprColorAt c s.scratch x y = 0 ∧ sprPriAt c s.scratch x y = 0) ∧
    ∀ idx, palRgb c s.palLatch idx = ⟨0, 0, 0⟩
end

