-- ==== Sys2Proof/Laws/State.lean ====
section
/-! SUPPORT. Every field of `State` after every update: an update changes the fields it names and no other. -/

namespace Sys2Proof.Laws

open Sys2Proof.Config Sys2Proof.Machine

variable (s : State)

/-! ## `setStream` -/

@[simp] theorem setStream_stream (v : List OpWord) : (s.setStream v).stream = v := rfl
@[simp] theorem setStream_mem (v : List OpWord) : (s.setStream v).mem = s.mem := rfl
@[simp] theorem setStream_rozctrl (v : List OpWord) : (s.setStream v).rozctrl = s.rozctrl := rfl
@[simp] theorem setStream_layer (v : List OpWord) : (s.setStream v).layer = s.layer := rfl
@[simp] theorem setStream_crtc (v : List OpWord) : (s.setStream v).crtc = s.crtc := rfl
@[simp] theorem setStream_brt (v : List OpWord) : (s.setStream v).brt = s.brt := rfl
@[simp] theorem setStream_scales (v : List OpWord) : (s.setStream v).scales = s.scales := rfl
@[simp] theorem setStream_flipX (v : List OpWord) : (s.setStream v).flipX = s.flipX := rfl
@[simp] theorem setStream_flipY (v : List OpWord) : (s.setStream v).flipY = s.flipY := rfl
@[simp] theorem setStream_geom (v : List OpWord) : (s.setStream v).geom = s.geom := rfl
@[simp] theorem setStream_refresh (v : List OpWord) : (s.setStream v).refresh = s.refresh := rfl
@[simp] theorem setStream_scratch (v : List OpWord) : (s.setStream v).scratch = s.scratch := rfl
@[simp] theorem setStream_palLatch (v : List OpWord) : (s.setStream v).palLatch = s.palLatch := rfl
@[simp] theorem setStream_diagLog (v : List OpWord) : (s.setStream v).diagLog = s.diagLog := rfl
@[simp] theorem setStream_unhandledCount (v : List OpWord) : (s.setStream v).unhandledCount = s.unhandledCount := rfl
@[simp] theorem setStream_out (v : List OpWord) : (s.setStream v).out = s.out := rfl
@[simp] theorem setStream_renderStatus (v : List OpWord) : (s.setStream v).renderStatus = s.renderStatus := rfl

/-! ## `setMem` -/

@[simp] theorem setMem_stream (sp : Space) (v : Memory) : (s.setMem sp v).stream = s.stream := rfl
@[simp] theorem setMem_mem (sp : Space) (v : Memory) : (s.setMem sp v).mem = s.mem.set sp v := rfl
@[simp] theorem setMem_rozctrl (sp : Space) (v : Memory) : (s.setMem sp v).rozctrl = s.rozctrl := rfl
@[simp] theorem setMem_layer (sp : Space) (v : Memory) : (s.setMem sp v).layer = s.layer := rfl
@[simp] theorem setMem_crtc (sp : Space) (v : Memory) : (s.setMem sp v).crtc = s.crtc := rfl
@[simp] theorem setMem_brt (sp : Space) (v : Memory) : (s.setMem sp v).brt = s.brt := rfl
@[simp] theorem setMem_scales (sp : Space) (v : Memory) : (s.setMem sp v).scales = s.scales := rfl
@[simp] theorem setMem_flipX (sp : Space) (v : Memory) : (s.setMem sp v).flipX = s.flipX := rfl
@[simp] theorem setMem_flipY (sp : Space) (v : Memory) : (s.setMem sp v).flipY = s.flipY := rfl
@[simp] theorem setMem_geom (sp : Space) (v : Memory) : (s.setMem sp v).geom = s.geom := rfl
@[simp] theorem setMem_refresh (sp : Space) (v : Memory) : (s.setMem sp v).refresh = s.refresh := rfl
@[simp] theorem setMem_scratch (sp : Space) (v : Memory) : (s.setMem sp v).scratch = s.scratch := rfl
@[simp] theorem setMem_palLatch (sp : Space) (v : Memory) : (s.setMem sp v).palLatch = s.palLatch := rfl
@[simp] theorem setMem_diagLog (sp : Space) (v : Memory) : (s.setMem sp v).diagLog = s.diagLog := rfl
@[simp] theorem setMem_unhandledCount (sp : Space) (v : Memory) : (s.setMem sp v).unhandledCount = s.unhandledCount := rfl
@[simp] theorem setMem_out (sp : Space) (v : Memory) : (s.setMem sp v).out = s.out := rfl
@[simp] theorem setMem_renderStatus (sp : Space) (v : Memory) : (s.setMem sp v).renderStatus = s.renderStatus := rfl

/-! ## `setRozctrl` -/

@[simp] theorem setRozctrl_stream (k : Fin 32) (v : Word) : (s.setRozctrl k v).stream = s.stream := rfl
@[simp] theorem setRozctrl_mem (k : Fin 32) (v : Word) : (s.setRozctrl k v).mem = s.mem := rfl
@[simp] theorem setRozctrl_rozctrl (k : Fin 32) (v : Word) : (s.setRozctrl k v).rozctrl = s.rozctrl.set k v := rfl
@[simp] theorem setRozctrl_layer (k : Fin 32) (v : Word) : (s.setRozctrl k v).layer = s.layer := rfl
@[simp] theorem setRozctrl_crtc (k : Fin 32) (v : Word) : (s.setRozctrl k v).crtc = s.crtc := rfl
@[simp] theorem setRozctrl_brt (k : Fin 32) (v : Word) : (s.setRozctrl k v).brt = s.brt := rfl
@[simp] theorem setRozctrl_scales (k : Fin 32) (v : Word) : (s.setRozctrl k v).scales = s.scales := rfl
@[simp] theorem setRozctrl_flipX (k : Fin 32) (v : Word) : (s.setRozctrl k v).flipX = s.flipX := rfl
@[simp] theorem setRozctrl_flipY (k : Fin 32) (v : Word) : (s.setRozctrl k v).flipY = s.flipY := rfl
@[simp] theorem setRozctrl_geom (k : Fin 32) (v : Word) : (s.setRozctrl k v).geom = s.geom := rfl
@[simp] theorem setRozctrl_refresh (k : Fin 32) (v : Word) : (s.setRozctrl k v).refresh = s.refresh := rfl
@[simp] theorem setRozctrl_scratch (k : Fin 32) (v : Word) : (s.setRozctrl k v).scratch = s.scratch := rfl
@[simp] theorem setRozctrl_palLatch (k : Fin 32) (v : Word) : (s.setRozctrl k v).palLatch = s.palLatch := rfl
@[simp] theorem setRozctrl_diagLog (k : Fin 32) (v : Word) : (s.setRozctrl k v).diagLog = s.diagLog := rfl
@[simp] theorem setRozctrl_unhandledCount (k : Fin 32) (v : Word) : (s.setRozctrl k v).unhandledCount = s.unhandledCount := rfl
@[simp] theorem setRozctrl_out (k : Fin 32) (v : Word) : (s.setRozctrl k v).out = s.out := rfl
@[simp] theorem setRozctrl_renderStatus (k : Fin 32) (v : Word) : (s.setRozctrl k v).renderStatus = s.renderStatus := rfl

/-! ## `setLayer` -/

@[simp] theorem setLayer_stream (k : LayerReg) (v : Word) : (s.setLayer k v).stream = s.stream := rfl
@[simp] theorem setLayer_mem (k : LayerReg) (v : Word) : (s.setLayer k v).mem = s.mem := rfl
@[simp] theorem setLayer_rozctrl (k : LayerReg) (v : Word) : (s.setLayer k v).rozctrl = s.rozctrl := rfl
@[simp] theorem setLayer_layer (k : LayerReg) (v : Word) : (s.setLayer k v).layer = s.layer.set k v := rfl
@[simp] theorem setLayer_crtc (k : LayerReg) (v : Word) : (s.setLayer k v).crtc = s.crtc := rfl
@[simp] theorem setLayer_brt (k : LayerReg) (v : Word) : (s.setLayer k v).brt = s.brt := rfl
@[simp] theorem setLayer_scales (k : LayerReg) (v : Word) : (s.setLayer k v).scales = s.scales := rfl
@[simp] theorem setLayer_flipX (k : LayerReg) (v : Word) : (s.setLayer k v).flipX = s.flipX := rfl
@[simp] theorem setLayer_flipY (k : LayerReg) (v : Word) : (s.setLayer k v).flipY = s.flipY := rfl
@[simp] theorem setLayer_geom (k : LayerReg) (v : Word) : (s.setLayer k v).geom = s.geom := rfl
@[simp] theorem setLayer_refresh (k : LayerReg) (v : Word) : (s.setLayer k v).refresh = s.refresh := rfl
@[simp] theorem setLayer_scratch (k : LayerReg) (v : Word) : (s.setLayer k v).scratch = s.scratch := rfl
@[simp] theorem setLayer_palLatch (k : LayerReg) (v : Word) : (s.setLayer k v).palLatch = s.palLatch := rfl
@[simp] theorem setLayer_diagLog (k : LayerReg) (v : Word) : (s.setLayer k v).diagLog = s.diagLog := rfl
@[simp] theorem setLayer_unhandledCount (k : LayerReg) (v : Word) : (s.setLayer k v).unhandledCount = s.unhandledCount := rfl
@[simp] theorem setLayer_out (k : LayerReg) (v : Word) : (s.setLayer k v).out = s.out := rfl
@[simp] theorem setLayer_renderStatus (k : LayerReg) (v : Word) : (s.setLayer k v).renderStatus = s.renderStatus := rfl

/-! ## `setCrtc` -/

@[simp] theorem setCrtc_stream (k : CrtcReg) (v : Half) : (s.setCrtc k v).stream = s.stream := rfl
@[simp] theorem setCrtc_mem (k : CrtcReg) (v : Half) : (s.setCrtc k v).mem = s.mem := rfl
@[simp] theorem setCrtc_rozctrl (k : CrtcReg) (v : Half) : (s.setCrtc k v).rozctrl = s.rozctrl := rfl
@[simp] theorem setCrtc_layer (k : CrtcReg) (v : Half) : (s.setCrtc k v).layer = s.layer := rfl
@[simp] theorem setCrtc_crtc (k : CrtcReg) (v : Half) : (s.setCrtc k v).crtc = s.crtc.set k v := rfl
@[simp] theorem setCrtc_brt (k : CrtcReg) (v : Half) : (s.setCrtc k v).brt = s.brt := rfl
@[simp] theorem setCrtc_scales (k : CrtcReg) (v : Half) : (s.setCrtc k v).scales = s.scales := rfl
@[simp] theorem setCrtc_flipX (k : CrtcReg) (v : Half) : (s.setCrtc k v).flipX = s.flipX := rfl
@[simp] theorem setCrtc_flipY (k : CrtcReg) (v : Half) : (s.setCrtc k v).flipY = s.flipY := rfl
@[simp] theorem setCrtc_geom (k : CrtcReg) (v : Half) : (s.setCrtc k v).geom = s.geom := rfl
@[simp] theorem setCrtc_refresh (k : CrtcReg) (v : Half) : (s.setCrtc k v).refresh = s.refresh := rfl
@[simp] theorem setCrtc_scratch (k : CrtcReg) (v : Half) : (s.setCrtc k v).scratch = s.scratch := rfl
@[simp] theorem setCrtc_palLatch (k : CrtcReg) (v : Half) : (s.setCrtc k v).palLatch = s.palLatch := rfl
@[simp] theorem setCrtc_diagLog (k : CrtcReg) (v : Half) : (s.setCrtc k v).diagLog = s.diagLog := rfl
@[simp] theorem setCrtc_unhandledCount (k : CrtcReg) (v : Half) : (s.setCrtc k v).unhandledCount = s.unhandledCount := rfl
@[simp] theorem setCrtc_out (k : CrtcReg) (v : Half) : (s.setCrtc k v).out = s.out := rfl
@[simp] theorem setCrtc_renderStatus (k : CrtcReg) (v : Half) : (s.setCrtc k v).renderStatus = s.renderStatus := rfl

/-! ## `setBrt` -/

@[simp] theorem setBrt_stream (b : Bank) (r : BrtReg) (v : Half) : (s.setBrt b r v).stream = s.stream := rfl
@[simp] theorem setBrt_mem (b : Bank) (r : BrtReg) (v : Half) : (s.setBrt b r v).mem = s.mem := rfl
@[simp] theorem setBrt_rozctrl (b : Bank) (r : BrtReg) (v : Half) : (s.setBrt b r v).rozctrl = s.rozctrl := rfl
@[simp] theorem setBrt_layer (b : Bank) (r : BrtReg) (v : Half) : (s.setBrt b r v).layer = s.layer := rfl
@[simp] theorem setBrt_crtc (b : Bank) (r : BrtReg) (v : Half) : (s.setBrt b r v).crtc = s.crtc := rfl
@[simp] theorem setBrt_brt (b : Bank) (r : BrtReg) (v : Half) : (s.setBrt b r v).brt = s.brt.set b r v := rfl
@[simp] theorem setBrt_scales (b : Bank) (r : BrtReg) (v : Half) : (s.setBrt b r v).scales = s.scales := rfl
@[simp] theorem setBrt_flipX (b : Bank) (r : BrtReg) (v : Half) : (s.setBrt b r v).flipX = s.flipX := rfl
@[simp] theorem setBrt_flipY (b : Bank) (r : BrtReg) (v : Half) : (s.setBrt b r v).flipY = s.flipY := rfl
@[simp] theorem setBrt_geom (b : Bank) (r : BrtReg) (v : Half) : (s.setBrt b r v).geom = s.geom := rfl
@[simp] theorem setBrt_refresh (b : Bank) (r : BrtReg) (v : Half) : (s.setBrt b r v).refresh = s.refresh := rfl
@[simp] theorem setBrt_scratch (b : Bank) (r : BrtReg) (v : Half) : (s.setBrt b r v).scratch = s.scratch := rfl
@[simp] theorem setBrt_palLatch (b : Bank) (r : BrtReg) (v : Half) : (s.setBrt b r v).palLatch = s.palLatch := rfl
@[simp] theorem setBrt_diagLog (b : Bank) (r : BrtReg) (v : Half) : (s.setBrt b r v).diagLog = s.diagLog := rfl
@[simp] theorem setBrt_unhandledCount (b : Bank) (r : BrtReg) (v : Half) : (s.setBrt b r v).unhandledCount = s.unhandledCount := rfl
@[simp] theorem setBrt_out (b : Bank) (r : BrtReg) (v : Half) : (s.setBrt b r v).out = s.out := rfl
@[simp] theorem setBrt_renderStatus (b : Bank) (r : BrtReg) (v : Half) : (s.setBrt b r v).renderStatus = s.renderStatus := rfl

/-! ## `setScales` -/

@[simp] theorem setScales_stream (v : Scales) : (s.setScales v).stream = s.stream := rfl
@[simp] theorem setScales_mem (v : Scales) : (s.setScales v).mem = s.mem := rfl
@[simp] theorem setScales_rozctrl (v : Scales) : (s.setScales v).rozctrl = s.rozctrl := rfl
@[simp] theorem setScales_layer (v : Scales) : (s.setScales v).layer = s.layer := rfl
@[simp] theorem setScales_crtc (v : Scales) : (s.setScales v).crtc = s.crtc := rfl
@[simp] theorem setScales_brt (v : Scales) : (s.setScales v).brt = s.brt := rfl
@[simp] theorem setScales_scales (v : Scales) : (s.setScales v).scales = v := rfl
@[simp] theorem setScales_flipX (v : Scales) : (s.setScales v).flipX = s.flipX := rfl
@[simp] theorem setScales_flipY (v : Scales) : (s.setScales v).flipY = s.flipY := rfl
@[simp] theorem setScales_geom (v : Scales) : (s.setScales v).geom = s.geom := rfl
@[simp] theorem setScales_refresh (v : Scales) : (s.setScales v).refresh = s.refresh := rfl
@[simp] theorem setScales_scratch (v : Scales) : (s.setScales v).scratch = s.scratch := rfl
@[simp] theorem setScales_palLatch (v : Scales) : (s.setScales v).palLatch = s.palLatch := rfl
@[simp] theorem setScales_diagLog (v : Scales) : (s.setScales v).diagLog = s.diagLog := rfl
@[simp] theorem setScales_unhandledCount (v : Scales) : (s.setScales v).unhandledCount = s.unhandledCount := rfl
@[simp] theorem setScales_out (v : Scales) : (s.setScales v).out = s.out := rfl
@[simp] theorem setScales_renderStatus (v : Scales) : (s.setScales v).renderStatus = s.renderStatus := rfl

/-! ## `setFlips` -/

@[simp] theorem setFlips_stream (v : Bool) : (s.setFlips v).stream = s.stream := rfl
@[simp] theorem setFlips_mem (v : Bool) : (s.setFlips v).mem = s.mem := rfl
@[simp] theorem setFlips_rozctrl (v : Bool) : (s.setFlips v).rozctrl = s.rozctrl := rfl
@[simp] theorem setFlips_layer (v : Bool) : (s.setFlips v).layer = s.layer := rfl
@[simp] theorem setFlips_crtc (v : Bool) : (s.setFlips v).crtc = s.crtc := rfl
@[simp] theorem setFlips_brt (v : Bool) : (s.setFlips v).brt = s.brt := rfl
@[simp] theorem setFlips_scales (v : Bool) : (s.setFlips v).scales = s.scales := rfl
@[simp] theorem setFlips_flipX (v : Bool) : (s.setFlips v).flipX = LayerBits.all v := rfl
@[simp] theorem setFlips_flipY (v : Bool) : (s.setFlips v).flipY = LayerBits.all v := rfl
@[simp] theorem setFlips_geom (v : Bool) : (s.setFlips v).geom = s.geom := rfl
@[simp] theorem setFlips_refresh (v : Bool) : (s.setFlips v).refresh = s.refresh := rfl
@[simp] theorem setFlips_scratch (v : Bool) : (s.setFlips v).scratch = s.scratch := rfl
@[simp] theorem setFlips_palLatch (v : Bool) : (s.setFlips v).palLatch = s.palLatch := rfl
@[simp] theorem setFlips_diagLog (v : Bool) : (s.setFlips v).diagLog = s.diagLog := rfl
@[simp] theorem setFlips_unhandledCount (v : Bool) : (s.setFlips v).unhandledCount = s.unhandledCount := rfl
@[simp] theorem setFlips_out (v : Bool) : (s.setFlips v).out = s.out := rfl
@[simp] theorem setFlips_renderStatus (v : Bool) : (s.setFlips v).renderStatus = s.renderStatus := rfl

/-! ## `setGeometry` -/

@[simp] theorem setGeometry_stream (g : Geometry) (r : Rat) : (s.setGeometry g r).stream = s.stream := rfl
@[simp] theorem setGeometry_mem (g : Geometry) (r : Rat) : (s.setGeometry g r).mem = s.mem := rfl
@[simp] theorem setGeometry_rozctrl (g : Geometry) (r : Rat) : (s.setGeometry g r).rozctrl = s.rozctrl := rfl
@[simp] theorem setGeometry_layer (g : Geometry) (r : Rat) : (s.setGeometry g r).layer = s.layer := rfl
@[simp] theorem setGeometry_crtc (g : Geometry) (r : Rat) : (s.setGeometry g r).crtc = s.crtc := rfl
@[simp] theorem setGeometry_brt (g : Geometry) (r : Rat) : (s.setGeometry g r).brt = s.brt := rfl
@[simp] theorem setGeometry_scales (g : Geometry) (r : Rat) : (s.setGeometry g r).scales = s.scales := rfl
@[simp] theorem setGeometry_flipX (g : Geometry) (r : Rat) : (s.setGeometry g r).flipX = s.flipX := rfl
@[simp] theorem setGeometry_flipY (g : Geometry) (r : Rat) : (s.setGeometry g r).flipY = s.flipY := rfl
@[simp] theorem setGeometry_geom (g : Geometry) (r : Rat) : (s.setGeometry g r).geom = g := rfl
@[simp] theorem setGeometry_refresh (g : Geometry) (r : Rat) : (s.setGeometry g r).refresh = r := rfl
@[simp] theorem setGeometry_scratch (g : Geometry) (r : Rat) : (s.setGeometry g r).scratch = s.scratch := rfl
@[simp] theorem setGeometry_palLatch (g : Geometry) (r : Rat) : (s.setGeometry g r).palLatch = s.palLatch := rfl
@[simp] theorem setGeometry_diagLog (g : Geometry) (r : Rat) : (s.setGeometry g r).diagLog = s.diagLog := rfl
@[simp] theorem setGeometry_unhandledCount (g : Geometry) (r : Rat) : (s.setGeometry g r).unhandledCount = s.unhandledCount := rfl
@[simp] theorem setGeometry_out (g : Geometry) (r : Rat) : (s.setGeometry g r).out = s.out := rfl
@[simp] theorem setGeometry_renderStatus (g : Geometry) (r : Rat) : (s.setGeometry g r).renderStatus = s.renderStatus := rfl

/-! ## `appendDiag` -/

@[simp] theorem appendDiag_stream (d : Diag) : (s.appendDiag d).stream = s.stream := rfl
@[simp] theorem appendDiag_mem (d : Diag) : (s.appendDiag d).mem = s.mem := rfl
@[simp] theorem appendDiag_rozctrl (d : Diag) : (s.appendDiag d).rozctrl = s.rozctrl := rfl
@[simp] theorem appendDiag_layer (d : Diag) : (s.appendDiag d).layer = s.layer := rfl
@[simp] theorem appendDiag_crtc (d : Diag) : (s.appendDiag d).crtc = s.crtc := rfl
@[simp] theorem appendDiag_brt (d : Diag) : (s.appendDiag d).brt = s.brt := rfl
@[simp] theorem appendDiag_scales (d : Diag) : (s.appendDiag d).scales = s.scales := rfl
@[simp] theorem appendDiag_flipX (d : Diag) : (s.appendDiag d).flipX = s.flipX := rfl
@[simp] theorem appendDiag_flipY (d : Diag) : (s.appendDiag d).flipY = s.flipY := rfl
@[simp] theorem appendDiag_geom (d : Diag) : (s.appendDiag d).geom = s.geom := rfl
@[simp] theorem appendDiag_refresh (d : Diag) : (s.appendDiag d).refresh = s.refresh := rfl
@[simp] theorem appendDiag_scratch (d : Diag) : (s.appendDiag d).scratch = s.scratch := rfl
@[simp] theorem appendDiag_palLatch (d : Diag) : (s.appendDiag d).palLatch = s.palLatch := rfl
@[simp] theorem appendDiag_diagLog (d : Diag) : (s.appendDiag d).diagLog = s.diagLog ++ [d] := rfl
@[simp] theorem appendDiag_unhandledCount (d : Diag) : (s.appendDiag d).unhandledCount = s.unhandledCount := rfl
@[simp] theorem appendDiag_out (d : Diag) : (s.appendDiag d).out = s.out := rfl
@[simp] theorem appendDiag_renderStatus (d : Diag) : (s.appendDiag d).renderStatus = s.renderStatus := rfl

/-! ## `setFrame` -/

@[simp] theorem setFrame_stream (p : PalLatch) (sc : Scratch) (o : Plane Rgb) (log : List Diag) (n : Nat) : (s.setFrame p sc o log n).stream = s.stream := rfl
@[simp] theorem setFrame_mem (p : PalLatch) (sc : Scratch) (o : Plane Rgb) (log : List Diag) (n : Nat) : (s.setFrame p sc o log n).mem = s.mem := rfl
@[simp] theorem setFrame_rozctrl (p : PalLatch) (sc : Scratch) (o : Plane Rgb) (log : List Diag) (n : Nat) : (s.setFrame p sc o log n).rozctrl = s.rozctrl := rfl
@[simp] theorem setFrame_layer (p : PalLatch) (sc : Scratch) (o : Plane Rgb) (log : List Diag) (n : Nat) : (s.setFrame p sc o log n).layer = s.layer := rfl
@[simp] theorem setFrame_crtc (p : PalLatch) (sc : Scratch) (o : Plane Rgb) (log : List Diag) (n : Nat) : (s.setFrame p sc o log n).crtc = s.crtc := rfl
@[simp] theorem setFrame_brt (p : PalLatch) (sc : Scratch) (o : Plane Rgb) (log : List Diag) (n : Nat) : (s.setFrame p sc o log n).brt = s.brt := rfl
@[simp] theorem setFrame_scales (p : PalLatch) (sc : Scratch) (o : Plane Rgb) (log : List Diag) (n : Nat) : (s.setFrame p sc o log n).scales = s.scales := rfl
@[simp] theorem setFrame_flipX (p : PalLatch) (sc : Scratch) (o : Plane Rgb) (log : List Diag) (n : Nat) : (s.setFrame p sc o log n).flipX = s.flipX := rfl
@[simp] theorem setFrame_flipY (p : PalLatch) (sc : Scratch) (o : Plane Rgb) (log : List Diag) (n : Nat) : (s.setFrame p sc o log n).flipY = s.flipY := rfl
@[simp] theorem setFrame_geom (p : PalLatch) (sc : Scratch) (o : Plane Rgb) (log : List Diag) (n : Nat) : (s.setFrame p sc o log n).geom = s.geom := rfl
@[simp] theorem setFrame_refresh (p : PalLatch) (sc : Scratch) (o : Plane Rgb) (log : List Diag) (n : Nat) : (s.setFrame p sc o log n).refresh = s.refresh := rfl
@[simp] theorem setFrame_scratch (p : PalLatch) (sc : Scratch) (o : Plane Rgb) (log : List Diag) (n : Nat) : (s.setFrame p sc o log n).scratch = sc := rfl
@[simp] theorem setFrame_palLatch (p : PalLatch) (sc : Scratch) (o : Plane Rgb) (log : List Diag) (n : Nat) : (s.setFrame p sc o log n).palLatch = p := rfl
@[simp] theorem setFrame_diagLog (p : PalLatch) (sc : Scratch) (o : Plane Rgb) (log : List Diag) (n : Nat) : (s.setFrame p sc o log n).diagLog = log := rfl
@[simp] theorem setFrame_unhandledCount (p : PalLatch) (sc : Scratch) (o : Plane Rgb) (log : List Diag) (n : Nat) : (s.setFrame p sc o log n).unhandledCount = n := rfl
@[simp] theorem setFrame_out (p : PalLatch) (sc : Scratch) (o : Plane Rgb) (log : List Diag) (n : Nat) : (s.setFrame p sc o log n).out = o := rfl
@[simp] theorem setFrame_renderStatus (p : PalLatch) (sc : Scratch) (o : Plane Rgb) (log : List Diag) (n : Nat) : (s.setFrame p sc o log n).renderStatus = some .ok := rfl

/-! ## Contents of a space, and registers by name -/

@[simp] theorem storage_get_set_same (m : Storage) (sp : Space) (v : Memory) : (m.set sp v).get sp = v := by
  cases sp <;> rfl

theorem storage_get_set_other (m : Storage) {sp sp' : Space} (v : Memory) (h : sp' ≠ sp) :
    (m.set sp v).get sp' = m.get sp' := by
  cases sp <;> cases sp' <;> first | rfl | exact absurd rfl h

/-- Two storages with the same contents of every space are the same. -/
theorem storage_ext {m m' : Storage} (h : ∀ sp, m.get sp = m'.get sp) : m = m' := by
  cases m; cases m'
  simp only [Storage.mk.injEq]
  exact ⟨h .txram, h .bgram, h .bgaltram, h .rozram, h .lineram, h .sprLive, h .sprDisp, h .palram, h .priram⟩

@[simp] theorem storage_set_get_self (m : Storage) (sp : Space) : m.set sp (m.get sp) = m := by cases sp <;> rfl

@[simp] theorem layer_get_set_same (r : LayerRegs) (k : LayerReg) (v : Word) : (r.set k v).get k = v := by
  cases k <;> rfl

theorem layer_get_set_other (r : LayerRegs) {k k' : LayerReg} (v : Word) (h : k' ≠ k) :
    (r.set k v).get k' = r.get k' := by
  cases k <;> cases k' <;> first | rfl | exact absurd rfl h

@[simp] theorem layer_set_get_self (r : LayerRegs) (k : LayerReg) : r.set k (r.get k) = r := by cases k <;> rfl

@[simp] theorem crtc_get_set_same (r : CrtcRegs) (k : CrtcReg) (v : Half) : (r.set k v).get k = v := by
  cases k <;> rfl

theorem crtc_get_set_other (r : CrtcRegs) {k k' : CrtcReg} (v : Half) (h : k' ≠ k) :
    (r.set k v).get k' = r.get k' := by
  cases k <;> cases k' <;> first | rfl | exact absurd rfl h

@[simp] theorem brt_get_set_same (t : BrtRegs) (b : Bank) (r : BrtReg) (v : Half) : (t.set b r v).get b r = v := by
  cases b <;> cases r <;> rfl

theorem brt_get_set_other (t : BrtRegs) {b b' : Bank} {r r' : BrtReg} (v : Half) (h : (b', r') ≠ (b, r)) :
    (t.set b r v).get b' r' = t.get b' r' := by
  cases b <;> cases b' <;> cases r <;> cases r' <;> first | rfl | exact absurd rfl h

@[simp] theorem brt_set_get_self (t : BrtRegs) (b : Bank) (r : BrtReg) : t.set b r (t.get b r) = t := by
  cases b <;> cases r <;> rfl

@[simp] theorem layerBits_all_get (v : Bool) (L : Layer) : (LayerBits.all v).get L = v := by cases L <;> rfl

end Sys2Proof.Laws
end

