-- ==== Sys2Proof/Laws/Decode.lean ====
section
/-! SUPPORT. The fields of a packed word (R55, R56). -/

namespace Sys2Proof.Laws

variable (comp : BitVec 4) (lanes : Lanes) (off : Offset) (data : Word)

@[simp] theorem fieldOpc_packWrite : fieldOpc (packWrite comp lanes off data) = 1 := by
  ext i hi; simp [fieldOpc, packWrite]; grind

@[simp] theorem fieldComp_packWrite : fieldComp (packWrite comp lanes off data) = comp := by
  ext i hi; simp [fieldComp, packWrite]; grind

@[simp] theorem fieldLanes_packWrite : fieldLanes (packWrite comp lanes off data) = lanes := by
  ext i hi; simp [fieldLanes, packWrite]; grind

@[simp] theorem fieldOff_packWrite : fieldOff (packWrite comp lanes off data) = off := by
  ext i hi; simp [fieldOff, packWrite]; grind

@[simp] theorem fieldData_packWrite : fieldData (packWrite comp lanes off data) = data := by
  ext i hi; simp [fieldData, packWrite]; grind

/-- A `WRITE` word is its five fields (R55). -/
theorem packWrite_fields (w : OpWord) (h : fieldOpc w = 1) :
    packWrite (fieldComp w) (fieldLanes w) (fieldOff w) (fieldData w) = w := by
  rw [packWrite, show (1#4 : BitVec 4) = fieldOpc w from h.symm]
  ext i hi
  simp [fieldOpc, fieldComp, fieldLanes, fieldOff, fieldData]
  grind

/-! ## Fields under the masks of the table (R61) -/

/-- Masking two parts of a word. -/
theorem append_and {m n : Nat} (a c : BitVec m) (b d : BitVec n) : (a ++ b) &&& (c ++ d) = (a &&& c) ++ (b &&& d) :=
  BitVec.and_append.symm ▸ rfl

/-- Under the mask of a row that names an offset. -/
theorem packWrite_and_offset : packWrite comp lanes off data &&& 0xFF0FFFFF00000000 = packWrite comp 0 off 0 := by
  show (1#4 ++ comp ++ lanes ++ off ++ data : BitVec (4 + 4 + 4 + 20 + 32)) &&&
    (BitVec.allOnes 4 ++ BitVec.allOnes 4 ++ 0#4 ++ BitVec.allOnes 20 ++ 0#32) = _
  rw [append_and, append_and, append_and, append_and]
  simp only [BitVec.and_allOnes, BitVec.and_zero]
  rfl

/-- Under the mask of a row that covers a component. -/
theorem packWrite_and_comp : packWrite comp lanes off data &&& 0xFF00000000000000 = packWrite comp 0 0 0 := by
  show (1#4 ++ comp ++ lanes ++ off ++ data : BitVec (4 + 4 + 4 + 20 + 32)) &&&
    (BitVec.allOnes 4 ++ BitVec.allOnes 4 ++ 0#4 ++ 0#20 ++ 0#32) = _
  rw [append_and, append_and, append_and, append_and]
  simp only [BitVec.and_allOnes, BitVec.and_zero]
  rfl

end Sys2Proof.Laws
end

