-- ==== Sys2Proof/Laws/Memory.lean ====
section
/-! SUPPORT. Reading and writing cells and words: a read after a write, the canonical form, and equality of canonical lists (log 8). -/

namespace Sys2Proof.Laws

open Sys2Proof.Config Sys2Proof.Machine

variable {α : Type} (d : Nat → α)

/-! ## Reading after a write -/

theorem mem_cellErase {m : List (Nat × α)} {a : Nat} {e : Nat × α} : e ∈ cellErase m a ↔ e ∈ m ∧ e.1 ≠ a := by
  induction m with
  | nil => simp [cellErase]
  | cons p m ih =>
    obtain ⟨b, w⟩ := p
    unfold cellErase
    split
    · subst b; rw [ih]; constructor
      · rintro ⟨h1, h2⟩; exact ⟨List.mem_cons_of_mem _ h1, h2⟩
      · rintro ⟨h1, h2⟩
        rcases List.mem_cons.1 h1 with rfl | h1
        · exact absurd rfl h2
        · exact ⟨h1, h2⟩
    · rename_i hne
      simp only [List.mem_cons, ih]
      constructor
      · rintro (rfl | ⟨h1, h2⟩)
        · exact ⟨.inl rfl, fun h => hne h.symm⟩
        · exact ⟨.inr h1, h2⟩
      · rintro ⟨rfl | h1, h2⟩
        · exact .inl rfl
        · exact .inr ⟨h1, h2⟩

theorem mem_cellInsert {m : List (Nat × α)} {a : Nat} {v : α} {e : Nat × α} :
    e ∈ cellInsert m a v ↔ e = (a, v) ∨ e ∈ m := by
  induction m with
  | nil => simp [cellInsert]
  | cons p m ih =>
    unfold cellInsert
    split
    · simp
    · simp only [List.mem_cons, ih]; tauto

theorem cellRead_cellErase (m : List (Nat × α)) (a b : Nat) :
    cellRead d (cellErase m a) b = if b = a then d a else cellRead d m b := by
  induction m with
  | nil => simp only [cellErase, cellRead]; split <;> simp_all
  | cons p m ih =>
    obtain ⟨c, w⟩ := p
    unfold cellErase
    split
    · subst c; rw [ih]; by_cases h : b = a <;> simp [h, cellRead]
    · by_cases hb : b = c
      · subst b; rename_i hne; simp [cellRead, Ne.symm hne]
      · simp [cellRead, hb, ih]

theorem cellRead_cellInsert {m : List (Nat × α)} {a : Nat} (v : α) (h : ∀ e ∈ m, e.1 ≠ a) (b : Nat) :
    cellRead d (cellInsert m a v) b = if b = a then v else cellRead d m b := by
  induction m with
  | nil => simp [cellInsert, cellRead]
  | cons p m ih =>
    obtain ⟨c, w⟩ := p
    have hc : c ≠ a := h _ (List.mem_cons_self)
    unfold cellInsert
    split
    · rfl
    · by_cases hb : b = c
      · subst b; simp [cellRead, hc]
      · simp only [cellRead, hb, if_false]
        exact ih fun e he => h e (List.mem_cons_of_mem _ he)

variable [DecidableEq α]

/-- A read after a write gives the value written at the address, and what it gave before at every other; nothing is asked of the
list. -/
@[simp] theorem cellRead_cellWrite (m : List (Nat × α)) (a : Nat) (v : α) (b : Nat) :
    cellRead d (cellWrite d m a v) b = if b = a then v else cellRead d m b := by
  unfold cellWrite
  split
  · rename_i hv; rw [cellRead_cellErase]; split <;> simp_all
  · rw [cellRead_cellInsert d v fun e he => (mem_cellErase.1 he).2, cellRead_cellErase]
    split <;> rfl

/-- What a write lists. -/
theorem mem_cellWrite {m : List (Nat × α)} {a : Nat} {v : α} {e : Nat × α} (h : e ∈ cellWrite d m a v) :
    e = (a, v) ∨ e ∈ m := by
  unfold cellWrite at h
  split at h
  · exact .inr (mem_cellErase.1 h).1
  · rcases mem_cellInsert.1 h with h | h
    · exact .inl h
    · exact .inr (mem_cellErase.1 h).1

/-! ## The canonical form -/

/-- The canonical form, said with the library's words. -/
theorem cellsWf_iff (m : List (Nat × α)) :
    cellsWf d m = true ↔ m.Pairwise (fun x y => x.1 < y.1) ∧ ∀ e ∈ m, e.2 ≠ d e.1 := by
  induction m with
  | nil => simp [cellsWf]
  | cons p m ih =>
    obtain ⟨a, v⟩ := p
    simp only [cellsWf, Bool.and_eq_true, decide_eq_true_eq, List.all_eq_true, ih, List.pairwise_cons,
      List.mem_cons, forall_eq_or_imp]
    tauto

omit [DecidableEq α] in
theorem pairwise_cellErase {m : List (Nat × α)} (a : Nat) (h : m.Pairwise (fun x y => x.1 < y.1)) :
    (cellErase m a).Pairwise (fun x y => x.1 < y.1) := by
  induction m with
  | nil => simp [cellErase]
  | cons p m ih =>
    obtain ⟨b, w⟩ := p
    rw [List.pairwise_cons] at h
    unfold cellErase
    split
    · exact ih h.2
    · exact List.pairwise_cons.2 ⟨fun e he => h.1 e (mem_cellErase.1 he).1, ih h.2⟩

omit [DecidableEq α] in
theorem pairwise_cellInsert {m : List (Nat × α)} {a : Nat} (v : α) (hm : m.Pairwise (fun x y => x.1 < y.1))
    (h : ∀ e ∈ m, e.1 ≠ a) : (cellInsert m a v).Pairwise (fun x y => x.1 < y.1) := by
  induction m with
  | nil => simp [cellInsert]
  | cons p m ih =>
    obtain ⟨b, w⟩ := p
    have hb : b ≠ a := h _ List.mem_cons_self
    have hp := List.pairwise_cons.1 hm
    unfold cellInsert
    split
    · rename_i hlt
      refine List.pairwise_cons.2 ⟨fun e he => ?_, hm⟩
      rcases List.mem_cons.1 he with rfl | he
      · exact hlt
      · exact lt_trans hlt (hp.1 e he)
    · refine List.pairwise_cons.2 ⟨fun e he => ?_, ih hp.2 fun e he => h e (List.mem_cons_of_mem _ he)⟩
      rcases mem_cellInsert.1 he with rfl | he
      · exact lt_of_le_of_ne (not_lt.1 ‹_›) hb
      · exact hp.1 e he

/-- A write keeps the canonical form. -/
theorem cellsWf_cellWrite {m : List (Nat × α)} (a : Nat) (v : α) (h : cellsWf d m = true) :
    cellsWf d (cellWrite d m a v) = true := by
  rw [cellsWf_iff] at h ⊢
  refine ⟨?_, fun e he => ?_⟩
  · unfold cellWrite
    split
    · exact pairwise_cellErase a h.1
    · exact pairwise_cellInsert v (pairwise_cellErase a h.1) fun e he => (mem_cellErase.1 he).2
  · unfold cellWrite at he
    split at he
    · exact h.2 e (mem_cellErase.1 he).1
    · rcases mem_cellInsert.1 he with rfl | he
      · assumption
      · exact h.2 e (mem_cellErase.1 he).1

omit [DecidableEq α] in
theorem cellRead_of_not_mem {m : List (Nat × α)} {a : Nat} (h : ∀ e ∈ m, e.1 ≠ a) : cellRead d m a = d a := by
  induction m with
  | nil => rfl
  | cons p m ih =>
    obtain ⟨b, w⟩ := p
    have hb : a ≠ b := fun e => h _ List.mem_cons_self e.symm
    simp only [cellRead, hb, if_false]
    exact ih fun e he => h e (List.mem_cons_of_mem _ he)

/-- Two canonical lists that read alike are the same list. -/
theorem cells_ext {m m' : List (Nat × α)} (h : cellsWf d m = true) (h' : cellsWf d m' = true)
    (hr : ∀ a, cellRead d m a = cellRead d m' a) : m = m' := by
  have gone : ∀ {n : List (Nat × α)} {a : Nat} {v : α}, cellsWf d ((a, v) :: n) = true →
      cellRead d n a = d a := fun hn => by
    have := (List.pairwise_cons.1 ((cellsWf_iff d _).1 hn).1).1
    exact cellRead_of_not_mem d fun e he => (this e he).ne'
  have low : ∀ {n : List (Nat × α)} {a b : Nat} {v : α}, cellsWf d ((b, v) :: n) = true → a < b →
      cellRead d ((b, v) :: n) a = d a := fun hn hab => by
    have := (List.pairwise_cons.1 ((cellsWf_iff d _).1 hn).1).1
    refine cellRead_of_not_mem d fun e he => ?_
    rcases List.mem_cons.1 he with rfl | he
    · exact hab.ne'
    · exact (hab.trans (this e he)).ne'
  have tail : ∀ {n : List (Nat × α)} {p : Nat × α}, cellsWf d (p :: n) = true → cellsWf d n = true := fun hn => by
    rw [cellsWf_iff] at hn ⊢
    exact ⟨(List.pairwise_cons.1 hn.1).2, fun e he => hn.2 e (List.mem_cons_of_mem _ he)⟩
  have head : ∀ {n : List (Nat × α)} {a : Nat} {v : α}, cellsWf d ((a, v) :: n) = true → v ≠ d a := fun hn =>
    ((cellsWf_iff d _).1 hn).2 _ List.mem_cons_self
  induction m generalizing m' with
  | nil =>
    cases m' with
    | nil => rfl
    | cons p n =>
      obtain ⟨b, w⟩ := p
      have := hr b; simp only [cellRead, if_true] at this
      exact absurd this.symm (head h')
  | cons p n ih =>
    obtain ⟨a, v⟩ := p
    cases m' with
    | nil =>
      have := hr a; simp only [cellRead, if_true] at this
      exact absurd this (head h)
    | cons q n' =>
      obtain ⟨b, w⟩ := q
      rcases lt_trichotomy a b with hab | rfl | hab
      · have := hr a; rw [low h' hab] at this; simp only [cellRead, if_true] at this
        exact absurd this (head h)
      · have hv : v = w := by simpa [cellRead] using hr a
        subst hv
        rw [ih (tail h) (tail h') fun x => ?_]
        by_cases hx : x = a
        · subst hx; rw [gone h, gone h']
        · simpa [cellRead, hx] using hr x
      · have := hr b; rw [low h hab] at this; simp only [cellRead, if_true] at this
        exact absurd this.symm (head h')

/-- Writing what a canonical list reads already leaves the list as it is. -/
theorem cellWrite_read {m : List (Nat × α)} (a : Nat) (h : cellsWf d m = true) :
    cellWrite d m a (cellRead d m a) = m :=
  cells_ext d (cellsWf_cellWrite d a _ h) h fun b => by rw [cellRead_cellWrite]; split <;> simp_all

/-! ## Words -/

/-- A byte after a word write: the lane of the word at its four addresses, as before elsewhere. -/
theorem cellRead_writeWord (d : Nat → Byte) (m : Memory) (i : Nat) (v : Word) (a : Nat) :
    cellRead d (writeWord d m i v) a = if a / 4 = i then v.extractLsb' (8 * (a % 4)) 8 else cellRead d m a := by
  simp only [writeWord, cellRead_cellWrite]
  have hlt : a % 4 < 4 := Nat.mod_lt _ (by decide)
  have hdiv := Nat.div_add_mod a 4
  by_cases h : a / 4 = i
  · subst h
    generalize hq : a / 4 = q at *
    generalize hk : a % 4 = k at *
    subst hdiv
    interval_cases k <;> simp
  · have h3 : a ≠ 4 * i + 3 := by omega
    have h2 : a ≠ 4 * i + 2 := by omega
    have h1 : a ≠ 4 * i + 1 := by omega
    have h0 : a ≠ 4 * i := by omega
    simp [h, h0, h1, h2, h3]

/-- A word after a word write. -/
@[simp] theorem readWord_writeWord (d : Nat → Byte) (m : Memory) (i j : Nat) (v : Word) :
    readWord d (writeWord d m i v) j = if j = i then v else readWord d m j := by
  have q : ∀ k, k < 4 → (4 * j + k) / 4 = j ∧ (4 * j + k) % 4 = k := fun k hk => by omega
  simp only [readWord, cellRead_writeWord]
  obtain ⟨q3, r3⟩ := q 3 (by decide)
  obtain ⟨q2, r2⟩ := q 2 (by decide)
  obtain ⟨q1, r1⟩ := q 1 (by decide)
  obtain ⟨q0, r0⟩ := q 0 (by decide)
  simp only [Nat.add_zero] at q0 r0
  simp only [q3, r3, q2, r2, q1, r1, q0, r0]
  split
  · ext b hb; simp; grind
  · rfl

/-- A word write keeps the canonical form. -/
theorem wf_writeWord {d : Nat → Byte} {m : Memory} (i : Nat) (v : Word) (h : Memory.wf d m = true) :
    Memory.wf d (writeWord d m i v) = true :=
  cellsWf_cellWrite d _ _ (cellsWf_cellWrite d _ _ (cellsWf_cellWrite d _ _ (cellsWf_cellWrite d _ _ h)))

/-- A word write lists nothing beyond the word. -/
theorem below_writeWord {d : Nat → Byte} {m : Memory} {i n : Nat} (v : Word) (hi : i < n) (h : ∀ e ∈ m, e.1 < 4 * n) :
    ∀ e ∈ writeWord d m i v, e.1 < 4 * n := by
  intro e he
  simp only [writeWord] at he
  rcases mem_cellWrite d he with rfl | he
  · dsimp only; omega
  rcases mem_cellWrite d he with rfl | he
  · dsimp only; omega
  rcases mem_cellWrite d he with rfl | he
  · dsimp only; omega
  rcases mem_cellWrite d he with rfl | he
  · dsimp only; omega
  exact h e he

/-- Equal bytes make equal words. -/
theorem readWord_congr {d d' : Nat → Byte} {m m' : Memory} {i : Nat}
    (h : ∀ k, k < 4 → cellRead d m (4 * i + k) = cellRead d' m' (4 * i + k)) : readWord d m i = readWord d' m' i := by
  have h0 := h 0 (by decide)
  simp only [Nat.add_zero] at h0
  simp only [readWord, h 3 (by decide), h 2 (by decide), h 1 (by decide), h0]

/-- A byte of a word. -/
theorem byte_readWord (d : Nat → Byte) (m : Memory) (a : Nat) :
    (readWord d m (a / 4)).extractLsb' (8 * (a % 4)) 8 = cellRead d m a := by
  have hlt : a % 4 < 4 := Nat.mod_lt _ (by decide)
  have hdiv := Nat.div_add_mod a 4
  generalize hk : a % 4 = k at *
  generalize hq : a / 4 = q at *
  subst hdiv
  interval_cases k <;> (ext b hb; simp [readWord]; try grind)

theorem laneByte_getLsbD (on : Bool) (b : Nat) : (laneByte on).getLsbD b = (on && decide (b < 8)) := by
  cases on
  · simp [laneByte]
  · by_cases h : b < 8
    · interval_cases b <;> decide
    · simp [h, BitVec.getLsbD_of_ge _ b (Nat.not_lt.1 h)]

theorem lanemask_getLsbD (m : Lanes) (b : Nat) (hb : b < 32) : (lanemask m).getLsbD b = m.getLsbD (b / 8) := by
  simp only [lanemask, BitVec.getLsbD_append, laneByte_getLsbD]
  have h3 : b < 8 ∨ 8 ≤ b ∧ b < 16 ∨ 16 ≤ b ∧ b < 24 ∨ 24 ≤ b := by omega
  rcases h3 with h | h | h | h
  · rw [show b / 8 = 0 by omega]; simp [h]
  · rw [show b / 8 = 1 by omega]; simp [show ¬ b < 8 by omega, show b - 8 < 8 by omega]
  · rw [show b / 8 = 2 by omega]
    simp [show ¬ b < 8 by omega, show ¬ b - 8 < 8 by omega, show b - 8 - 8 < 8 by omega]
  · rw [show b / 8 = 3 by omega]
    simp [show ¬ b < 8 by omega, show ¬ b - 8 < 8 by omega, show ¬ b - 8 - 8 < 8 by omega,
      show b - 8 - 8 - 8 < 8 by omega]

/-- The lane mask of a 16-bit register is the low half of the word's (R44). -/
theorem lanemask16_lanes16 (m : Lanes) : lanemask16 (lanes16 m) = (lanemask m).extractLsb' 0 16 := by
  refine BitVec.eq_of_getLsbD_eq fun b hb => ?_
  simp only [lanemask16, lanes16, BitVec.getLsbD_append, laneByte_getLsbD, BitVec.getLsbD_extractLsb', Nat.zero_add,
    lanemask_getLsbD _ _ (show b < 32 by omega), hb, decide_true, Bool.true_and]
  rcases (show b < 8 ∨ 8 ≤ b by omega) with h | h
  · rw [show b / 8 = 0 by omega]; simp [h]
  · rw [show b / 8 = 1 by omega]; simp [show ¬ b < 8 by omega, show b - 8 < 8 by omega]

/-- A 16-bit register written with lanes 0 and 1 takes the low half of the value (R44). -/
theorem mergeLanes16_full (old : Half) (data : Word) : mergeLanes16 old data 3 = data.extractLsb' 0 16 := by
  refine BitVec.eq_of_getLsbD_eq fun b hb => ?_
  have h : (lanemask16 3).getLsbD b = true := by interval_cases b <;> decide
  simp only [mergeLanes16, BitVec.getLsbD_or, BitVec.getLsbD_and, BitVec.getLsbD_not, h, hb, decide_true,
    Bool.not_true, Bool.and_false, Bool.and_true, Bool.false_or]

/-- A merged word, lane by lane. -/
theorem mergeLanes_lane (old data : Word) (m : Lanes) (k : Nat) (hk : k < 4) :
    (mergeLanes old data m).extractLsb' (8 * k) 8 =
      if m.getLsbD k then data.extractLsb' (8 * k) 8 else old.extractLsb' (8 * k) 8 := by
  ext b hb
  have hq : (8 * k + b) / 8 = k := by omega
  have hl : 8 * k + b < 32 := by omega
  simp only [mergeLanes, BitVec.getElem_extractLsb', BitVec.getLsbD_or, BitVec.getLsbD_and, BitVec.getLsbD_not,
    lanemask_getLsbD _ _ hl, hq, hl, decide_true, Bool.true_and]
  cases m.getLsbD k <;> simp

@[simp] theorem mergeLanes_zero (old data : Word) : mergeLanes old data 0 = old := by
  refine BitVec.eq_of_getLsbD_eq fun b hb => ?_
  simp only [mergeLanes, BitVec.getLsbD_or, BitVec.getLsbD_and, BitVec.getLsbD_not, lanemask_getLsbD _ _ hb]
  simp [hb]

/-! ## The reset memory -/

/-- Every space at the start of a run is in canonical form. -/
theorem reset_mem_wf (c : Cfg) (sp : Space) : Memory.wf (resetByte c sp) ((State.resetOf c).mem.get sp) = true := by
  cases sp <;> rfl

end Sys2Proof.Laws
end

