-- ==== Sys2Proof/Laws/Ops.lean ====
section
/-! SUPPORT. One lemma for each shared operation that says all it can do: the storage write, the register merges, the diagnostics,
the geometry, the brightness scales, the sprite latch, the frame, and the step. -/

namespace Sys2Proof.Laws

open Sys2Proof.Config Sys2Proof.Machine Sys2Proof.Safety

variable (c : Cfg)

/-! ## Words and bytes of a state -/

@[simp] theorem setMem_wordAt_other (s : State) {sp sp' : Space} (v : Memory) (i : Nat) (h : sp' ≠ sp) :
    wordAt c (s.setMem sp v).mem sp' i = wordAt c s.mem sp' i := by
  simp only [wordAt, setMem_mem, storage_get_set_other _ _ h]

@[simp] theorem setMem_byteAt_other (s : State) {sp sp' : Space} (v : Memory) (a : Nat) (h : sp' ≠ sp) :
    byteAt c (s.setMem sp v).mem sp' a = byteAt c s.mem sp' a := by
  simp only [byteAt, setMem_mem, storage_get_set_other _ _ h]

/-- A word from its four bytes. -/
theorem wordAt_congr {m m' : Storage} {sp sp' : Space} {i : Nat}
    (h : ∀ k, k < 4 → byteAt c m sp (4 * i + k) = byteAt c m' sp' (4 * i + k)) :
    wordAt c m sp i = wordAt c m' sp' i := readWord_congr h

/-! ## The storage write -/

/-- The new contents of a space that `memWrite` writes: what every word and every byte reads, and that the form is kept (R43). -/
structure Stored (sp : Space) (off : Offset) (data : Word) (lanes : Lanes) (s : State) (v : Memory) : Prop where
  word : ∀ i, readWord (resetByte c sp) v i =
    if i = off.toNat then mergeLanes (wordAt c s.mem sp off.toNat) data lanes else wordAt c s.mem sp i
  byte : ∀ a, cellRead (resetByte c sp) v a =
    if a / 4 = off.toNat ∧ lanes.getLsbD (a % 4) then data.extractLsb' (8 * (a % 4)) 8 else byteAt c s.mem sp a
  wf : Memory.wf (resetByte c sp) (s.mem.get sp) = true → Memory.wf (resetByte c sp) v = true
  below : (∀ e ∈ s.mem.get sp, e.1 < 4 * spaceSize c sp) → ∀ e ∈ v, e.1 < 4 * spaceSize c sp

/-- All that `MemWrite` can do (R43, R178). -/
theorem memWrite_cases (sp : Space) (comp : BitVec 4) (off : Offset) (data : Word) (lanes : Lanes) (s : State) :
    (lanes = 0 ∧ memWrite c sp comp off data lanes s = s) ∨
    (lanes ≠ 0 ∧ spaceSize c sp ≤ off.toNat ∧
      memWrite c sp comp off data lanes s = s.appendDiag (.offsetRange comp off)) ∨
    (lanes ≠ 0 ∧ off.toNat < spaceSize c sp ∧ ∃ v, Stored c sp off data lanes s v ∧
      memWrite c sp comp off data lanes s = s.setMem sp v) := by
  unfold memWrite
  by_cases h0 : lanes = 0
  · exact .inl ⟨h0, if_pos h0⟩
  · by_cases h1 : spaceSize c sp ≤ off.toNat
    · exact .inr (.inl ⟨h0, h1, by rw [if_neg h0, if_pos h1]; rfl⟩)
    · refine .inr (.inr ⟨h0, Nat.lt_of_not_le h1, _, ⟨fun i => ?_, fun a => ?_, fun h => wf_writeWord _ _ h,
        below_writeWord _ (Nat.lt_of_not_le h1)⟩, by rw [if_neg h0, if_neg h1]⟩)
      · rw [readWord_writeWord]; rfl
      · rw [cellRead_writeWord, mergeLanes_lane _ _ _ _ (Nat.mod_lt _ (by decide))]
        by_cases ha : a / 4 = off.toNat
        · rw [if_pos ha, wordAt, ← ha, byte_readWord]
          simp only [true_and, byteAt]
        · simp only [ha, if_false, false_and, byteAt]

/-! ## Registers -/

/-- A layer register write changes one register (R74). -/
theorem layerWrite_layer (k k' : LayerReg) (data : Word) (lanes : Lanes) (s : State) :
    (layerWrite k data lanes s).layer.get k' = if k' = k then mergeLanes (s.layer.get k) data lanes else s.layer.get k' := by
  by_cases h : k' = k
  · subst h; simp [layerWrite]
  · simp [layerWrite, h, layer_get_set_other _ _ h]

/-- A `ROZCTRL` write changes one word (R96). -/
theorem rozWrite_rozctrl (k j : Fin 32) (data : Word) (lanes : Lanes) (s : State) :
    (rozWrite k data lanes s).rozctrl[j] = if j = k then mergeLanes s.rozctrl[k] data lanes else s.rozctrl[j] := by
  by_cases h : j = k
  · subst h; simp [rozWrite]
  · have h' : ¬ (k : Nat) = (j : Nat) := fun e => h (Fin.ext e.symm)
    simp [rozWrite, h, h']

/-- All that an unassigned register offset can do (R177). -/
theorem unknownReg_cases (comp : BitVec 4) (off : Offset) (data : Word) (lanes : Lanes) (s : State) :
    (lanes = 0 ∧ unknownReg comp off data lanes s = s) ∨
    (lanes ≠ 0 ∧ unknownReg comp off data lanes s = s.appendDiag (.unknownReg comp off data)) := by
  by_cases h : lanes = 0
  · exact .inl ⟨h, if_pos h⟩
  · exact .inr ⟨h, if_neg h⟩

/-! ## The CRTC -/

/-- Geometry recomputation: the geometry, the refresh rate, and one record when a width is out of bounds (R129). -/
theorem recompute_eq (s : State) :
    recompute c s =
      { s with
        geom := crtcGeometry s.crtc
        refresh := refreshOf (pixelClock c s.crtc) (crtcGeometry s.crtc)
        diagLog := s.diagLog ++ if crtcMalformed s.crtc then
          [.geometryClamp (crtcWidth s.crtc.hblank) (crtcWidth s.crtc.hdisp) (crtcWidth s.crtc.vblank)
            (crtcWidth s.crtc.vdisp)] else [] } := by
  unfold recompute
  cases crtcMalformed s.crtc <;> simp [State.setGeometry, raise, State.appendDiag]

/-- A clock over a positive total, as a quotient (R130). -/
theorem refreshOf_eq (clock : Rat) (g : Geometry) :
    refreshOf clock g = clock / ((g.hTotal * g.vTotal : Nat) : Rat) := by
  rw [refreshOf, Rat.mkRat_eq_div]
  push_cast
  rw [← div_div, Rat.num_div_den]

/-- The geometry of any registers is a geometry, with totals at most 0x2000 (R129, R169). -/
theorem crtcGeometry_bounds (r : CrtcRegs) :
    1 ≤ (crtcGeometry r).visW ∧ (crtcGeometry r).visW ≤ (crtcGeometry r).hTotal ∧ (crtcGeometry r).hTotal ≤ 0x2000 ∧
    1 ≤ (crtcGeometry r).visH ∧ (crtcGeometry r).visH ≤ (crtcGeometry r).vTotal ∧ (crtcGeometry r).vTotal ≤ 0x2000 := by
  simp only [crtcGeometry, crtcWidth]; omega

/-- What a CRTC write leaves alone: every memory, every register of another unit, the frame and the stream (R132). -/
theorem crtcWrite_frame (k : CrtcReg) (data : Word) (lanes : Lanes) (s : State) :
    let t := crtcWrite c k data lanes s
    t = { s with crtc := t.crtc, flipX := t.flipX, flipY := t.flipY, geom := t.geom, refresh := t.refresh,
                 diagLog := t.diagLog } := by
  intro t
  simp only [t, crtcWrite]
  split
  · rfl
  · cases k <;> simp only [crtcEffect, recompute_eq] <;> rfl

/-- The registers after a CRTC write (R132). -/
theorem crtcWrite_crtc (k : CrtcReg) (data : Word) (lanes : Lanes) (s : State) :
    (crtcWrite c k data lanes s).crtc =
      if lanes16 lanes = 0 then s.crtc else s.crtc.set k (mergeLanes16 (s.crtc.get k) data (lanes16 lanes)) := by
  by_cases h : lanes16 lanes = 0
  · simp only [crtcWrite, if_pos h]
  · simp only [crtcWrite, if_neg h]
    cases k <;> simp only [crtcEffect, recompute_eq] <;> rfl

/-! ## Brightness -/

/-- What a brightness write leaves alone: everything but the brightness registers and the scales (R159). -/
theorem brightWrite_frame (b : Bank) (r : BrtReg) (data : Word) (lanes : Lanes) (s : State) :
    let t := brightWrite c b r data lanes s
    t = { s with brt := t.brt, scales := t.scales } := by
  intro t
  simp only [t, brightWrite]
  split
  · rfl
  · split <;> rfl

/-- Every bank gives scales in 1..256 (R31, R158). -/
theorem scalesOf_bounds (t : BrtRegs) (b : Bank) :
    1 ≤ (scalesOf t b).r ∧ (scalesOf t b).r ≤ 256 ∧ 1 ≤ (scalesOf t b).g ∧ (scalesOf t b).g ≤ 256 ∧
      1 ≤ (scalesOf t b).b ∧ (scalesOf t b).b ≤ 256 := by
  simp only [scalesOf, brightScale]; omega

/-! ## The sprite latch -/

/-- A byte of the display buffer after a vertical blank: the live buffer's inside it, as before beyond it (R118). -/
theorem copySprites_byte (m : Storage) (a : Nat) :
    cellRead (resetByte c .sprDisp) (copySprites c m) a =
      if a / 4 < spaceSize c .sprLive then byteAt c m .sprLive a else byteAt c m .sprDisp a := by
  have gen : ∀ (n : Nat), cellRead (resetByte c .sprDisp)
      ((List.range n).foldl (copySpriteWord c m.sprLive) m.sprDisp) a =
        if a / 4 < n then byteAt c m .sprLive a else byteAt c m .sprDisp a := by
    intro n
    induction n with
    | zero => rfl
    | succ n ih =>
      rw [List.range_succ, List.foldl_append]
      simp only [List.foldl_cons, List.foldl_nil, copySpriteWord, cellRead_writeWord, ih]
      by_cases h : a / 4 = n
      · subst h; rw [if_pos rfl, if_pos (Nat.lt_succ_self _), byte_readWord]; rfl
      · rw [if_neg h]
        by_cases h' : a / 4 < n
        · rw [if_pos h', if_pos (by omega)]
        · rw [if_neg h', if_neg (by omega)]
  exact gen _

/-! ## The frame and the step -/

/-- What a frame leaves alone (R143, R145). -/
theorem renderClip_frame (k : Clip) (s : State) :
    let t := renderClip c k s
    t = { s with palLatch := t.palLatch, scratch := t.scratch, out := t.out, diagLog := t.diagLog,
                 unhandledCount := t.unhandledCount, renderStatus := some .ok } := rfl

/-- The step on an empty stream (log 2). -/
theorem step_empty {s : State} (h : s.stream = []) : step s = .next s := by
  unfold step fetch; rw [h]

/-- The step on a delivered word (R204). -/
theorem step_cons {s : State} {w : OpWord} {ws : List OpWord} (h : s.stream = w :: ws) :
    step s = exec (decode w) (s.setStream ws) := by
  unfold step fetch; rw [h]

/-! ## Runs -/

/-- One step, and the rest of the run. -/
theorem runSteps_succ {n : Nat} {s t : State} (h : step s = .next t) : runSteps (n + 1) s = runSteps n t := by
  rw [runSteps, h]

/-- A run over delivered words, from a state with none delivered: the first word's operation, then the rest. -/
theorem runWords_cons {s t : State} {w : OpWord} {ws : List OpWord} (hs : s.stream = [])
    (h : exec (decode w) (s.setStream ws) = .next t) (ht : t.stream = ws) :
    runWords s (w :: ws) = runWords (t.setStream []) ws := by
  have hd : (deliver s (w :: ws)).stream = w :: ws := by simp [deliver, hs]
  have he : step (deliver s (w :: ws)) = .next t := by rw [step_cons hd]; exact h
  rw [runWords, List.length_cons, runSteps_succ he, runWords]
  congr 1
  show t = { t with stream := [] ++ ws }
  rw [List.nil_append, ← ht]

theorem runWords_nil (s : State) : runWords s [] = .next (deliver s []) := rfl

/-! ## Legal configurations -/

/-- Every space of a legal configuration has a word (R170). -/
theorem spaceSize_pos {c : Cfg} (h : c.Legal) (sp : Space) : 0 < spaceSize c sp := by
  have grid : ∀ L, 0 < 2 * (c.cols L * c.rows L) := fun L =>
    Nat.mul_pos (by decide) (Nat.mul_pos (h.cols_pos L) (h.rows_pos L))
  have := h.priWords_pos
  have := h.sprEntries_pos
  have := h.palEntries_eq
  cases sp <;> simp only [spaceSize] <;> first | exact grid _ | omega

end Sys2Proof.Laws
end

