-- ==== Sys2Proof/Laws/PerInstr.lean ====
section
/-! SUPPORT. The family `CarriesRow`: the word of every operation matches the row of spec/opcode_table.json that the operation stands
for (R60, R61), one lemma a constructor. -/

namespace Sys2Proof.Laws

/-- The word of an operation matches its row. -/
def CarriesRow.Statement (i : Instr) : Prop := encode i &&& i.row.mask = i.row.bits

theorem CarriesRow.wrTxram (off : Offset) (data : Word) (lanes : Lanes) : Statement (.wrTxram off data lanes) :=
  (packWrite_and_comp 0 lanes off data).trans rfl

theorem CarriesRow.wrBgram (off : Offset) (data : Word) (lanes : Lanes) : Statement (.wrBgram off data lanes) :=
  (packWrite_and_comp 1 lanes off data).trans rfl

theorem CarriesRow.wrBgaltram (off : Offset) (data : Word) (lanes : Lanes) : Statement (.wrBgaltram off data lanes) :=
  (packWrite_and_comp 2 lanes off data).trans rfl

theorem CarriesRow.wrRozram (off : Offset) (data : Word) (lanes : Lanes) : Statement (.wrRozram off data lanes) :=
  (packWrite_and_comp 3 lanes off data).trans rfl

theorem CarriesRow.wrLayerTxScrollx (data : Word) (lanes : Lanes) : Statement (.wrLayerTxScrollx data lanes) :=
  (packWrite_and_offset 11 lanes 0 data).trans rfl

theorem CarriesRow.wrLayerTxScrolly (data : Word) (lanes : Lanes) : Statement (.wrLayerTxScrolly data lanes) :=
  (packWrite_and_offset 11 lanes 1 data).trans rfl

theorem CarriesRow.wrLayerBgScrollx (data : Word) (lanes : Lanes) : Statement (.wrLayerBgScrollx data lanes) :=
  (packWrite_and_offset 11 lanes 2 data).trans rfl

theorem CarriesRow.wrLayerBgScrolly (data : Word) (lanes : Lanes) : Statement (.wrLayerBgScrolly data lanes) :=
  (packWrite_and_offset 11 lanes 3 data).trans rfl

theorem CarriesRow.wrLayerBgaltScrollx (data : Word) (lanes : Lanes) : Statement (.wrLayerBgaltScrollx data lanes) :=
  (packWrite_and_offset 11 lanes 4 data).trans rfl

theorem CarriesRow.wrLayerBgaltScrolly (data : Word) (lanes : Lanes) : Statement (.wrLayerBgaltScrolly data lanes) :=
  (packWrite_and_offset 11 lanes 5 data).trans rfl

theorem CarriesRow.wrLayerBgLayout (data : Word) (lanes : Lanes) : Statement (.wrLayerBgLayout data lanes) :=
  (packWrite_and_offset 11 lanes 6 data).trans rfl

theorem CarriesRow.wrLayerUnknown (off : Offset) (data : Word) (lanes : Lanes) : Statement (.wrLayerUnknown off data lanes) :=
  (packWrite_and_comp 11 lanes off data).trans rfl

theorem CarriesRow.wrLineram (off : Offset) (data : Word) (lanes : Lanes) : Statement (.wrLineram off data lanes) :=
  (packWrite_and_comp 4 lanes off data).trans rfl

theorem CarriesRow.wrRozctrlStartxLo (data : Word) (lanes : Lanes) : Statement (.wrRozctrlStartxLo data lanes) :=
  (packWrite_and_offset 8 lanes 0 data).trans rfl

theorem CarriesRow.wrRozctrlStartxHi (data : Word) (lanes : Lanes) : Statement (.wrRozctrlStartxHi data lanes) :=
  (packWrite_and_offset 8 lanes 1 data).trans rfl

theorem CarriesRow.wrRozctrlStartyLo (data : Word) (lanes : Lanes) : Statement (.wrRozctrlStartyLo data lanes) :=
  (packWrite_and_offset 8 lanes 2 data).trans rfl

theorem CarriesRow.wrRozctrlStartyHi (data : Word) (lanes : Lanes) : Statement (.wrRozctrlStartyHi data lanes) :=
  (packWrite_and_offset 8 lanes 3 data).trans rfl

theorem CarriesRow.wrRozctrlIncxxLo (data : Word) (lanes : Lanes) : Statement (.wrRozctrlIncxxLo data lanes) :=
  (packWrite_and_offset 8 lanes 4 data).trans rfl

theorem CarriesRow.wrRozctrlIncxxHi (data : Word) (lanes : Lanes) : Statement (.wrRozctrlIncxxHi data lanes) :=
  (packWrite_and_offset 8 lanes 5 data).trans rfl

theorem CarriesRow.wrRozctrlIncxyLo (data : Word) (lanes : Lanes) : Statement (.wrRozctrlIncxyLo data lanes) :=
  (packWrite_and_offset 8 lanes 6 data).trans rfl

theorem CarriesRow.wrRozctrlIncxyHi (data : Word) (lanes : Lanes) : Statement (.wrRozctrlIncxyHi data lanes) :=
  (packWrite_and_offset 8 lanes 7 data).trans rfl

theorem CarriesRow.wrRozctrlIncyyLo (data : Word) (lanes : Lanes) : Statement (.wrRozctrlIncyyLo data lanes) :=
  (packWrite_and_offset 8 lanes 8 data).trans rfl

theorem CarriesRow.wrRozctrlIncyyHi (data : Word) (lanes : Lanes) : Statement (.wrRozctrlIncyyHi data lanes) :=
  (packWrite_and_offset 8 lanes 9 data).trans rfl

theorem CarriesRow.wrRozctrlIncyxLo (data : Word) (lanes : Lanes) : Statement (.wrRozctrlIncyxLo data lanes) :=
  (packWrite_and_offset 8 lanes 10 data).trans rfl

theorem CarriesRow.wrRozctrlIncyxHi (data : Word) (lanes : Lanes) : Statement (.wrRozctrlIncyxHi data lanes) :=
  (packWrite_and_offset 8 lanes 11 data).trans rfl

theorem CarriesRow.wrRozctrlOffx (data : Word) (lanes : Lanes) : Statement (.wrRozctrlOffx data lanes) :=
  (packWrite_and_offset 8 lanes 12 data).trans rfl

theorem CarriesRow.wrRozctrlOffy (data : Word) (lanes : Lanes) : Statement (.wrRozctrlOffy data lanes) :=
  (packWrite_and_offset 8 lanes 13 data).trans rfl

theorem CarriesRow.wrRozctrlOffselx (data : Word) (lanes : Lanes) : Statement (.wrRozctrlOffselx data lanes) :=
  (packWrite_and_offset 8 lanes 14 data).trans rfl

theorem CarriesRow.wrRozctrlOffsely (data : Word) (lanes : Lanes) : Statement (.wrRozctrlOffsely data lanes) :=
  (packWrite_and_offset 8 lanes 15 data).trans rfl

theorem CarriesRow.wrRozctrlMode (data : Word) (lanes : Lanes) : Statement (.wrRozctrlMode data lanes) :=
  (packWrite_and_offset 8 lanes 23 data).trans rfl

theorem CarriesRow.wrRozctrlSpare (k : BitVec 4) (data : Word) (lanes : Lanes) :
    Statement (.wrRozctrlSpare k data lanes) := by
  show (1#4 ++ 8#4 ++ lanes ++ (1#16 ++ k) ++ data : BitVec (4 + 4 + 4 + (16 + 4) + 32)) &&&
    (BitVec.allOnes 4 ++ BitVec.allOnes 4 ++ 0#4 ++ (BitVec.allOnes 16 ++ 0#4) ++ 0#32) = _
  rw [append_and, append_and, append_and, append_and, append_and]
  simp only [BitVec.and_allOnes, BitVec.and_zero]
  rfl

theorem CarriesRow.wrRozctrlUnknown (off : Offset) (data : Word) (lanes : Lanes) : Statement (.wrRozctrlUnknown off data lanes) :=
  (packWrite_and_comp 8 lanes off data).trans rfl

theorem CarriesRow.wrSprram (off : Offset) (data : Word) (lanes : Lanes) : Statement (.wrSprram off data lanes) :=
  (packWrite_and_comp 5 lanes off data).trans rfl

theorem CarriesRow.vblank : Statement .vblank := by unfold Statement; decide

theorem CarriesRow.wrCrtcCtrl (data : Word) (lanes : Lanes) : Statement (.wrCrtcCtrl data lanes) :=
  (packWrite_and_offset 9 lanes 0 data).trans rfl

theorem CarriesRow.wrCrtcHblank (data : Word) (lanes : Lanes) : Statement (.wrCrtcHblank data lanes) :=
  (packWrite_and_offset 9 lanes 1 data).trans rfl

theorem CarriesRow.wrCrtcHdisp (data : Word) (lanes : Lanes) : Statement (.wrCrtcHdisp data lanes) :=
  (packWrite_and_offset 9 lanes 2 data).trans rfl

theorem CarriesRow.wrCrtcVblank (data : Word) (lanes : Lanes) : Statement (.wrCrtcVblank data lanes) :=
  (packWrite_and_offset 9 lanes 3 data).trans rfl

theorem CarriesRow.wrCrtcVdisp (data : Word) (lanes : Lanes) : Statement (.wrCrtcVdisp data lanes) :=
  (packWrite_and_offset 9 lanes 4 data).trans rfl

theorem CarriesRow.wrCrtcPorchBack (data : Word) (lanes : Lanes) : Statement (.wrCrtcPorchBack data lanes) :=
  (packWrite_and_offset 9 lanes 5 data).trans rfl

theorem CarriesRow.wrCrtcPorchFront (data : Word) (lanes : Lanes) : Statement (.wrCrtcPorchFront data lanes) :=
  (packWrite_and_offset 9 lanes 6 data).trans rfl

theorem CarriesRow.wrCrtcUnknown (off : Offset) (data : Word) (lanes : Lanes) : Statement (.wrCrtcUnknown off data lanes) :=
  (packWrite_and_comp 9 lanes off data).trans rfl

theorem CarriesRow.wrPriram (off : Offset) (data : Word) (lanes : Lanes) : Statement (.wrPriram off data lanes) :=
  (packWrite_and_comp 7 lanes off data).trans rfl

theorem CarriesRow.render (minx maxx miny maxy : BitVec 12) : Statement (.render minx maxx miny maxy) := by
  show (3#4 ++ 0#12 ++ minx ++ maxx ++ miny ++ maxy : BitVec (4 + 12 + 12 + 12 + 12 + 12)) &&&
    (BitVec.allOnes 4 ++ 0#12 ++ 0#12 ++ 0#12 ++ 0#12 ++ 0#12) = _
  rw [append_and, append_and, append_and, append_and, append_and]
  simp only [BitVec.and_allOnes, BitVec.and_zero]
  rfl

theorem CarriesRow.wrPalram (off : Offset) (data : Word) (lanes : Lanes) : Statement (.wrPalram off data lanes) :=
  (packWrite_and_comp 6 lanes off data).trans rfl

theorem CarriesRow.wrBrightB0r0 (data : Word) (lanes : Lanes) : Statement (.wrBrightB0r0 data lanes) :=
  (packWrite_and_offset 10 lanes 0 data).trans rfl

theorem CarriesRow.wrBrightB0r1 (data : Word) (lanes : Lanes) : Statement (.wrBrightB0r1 data lanes) :=
  (packWrite_and_offset 10 lanes 1 data).trans rfl

theorem CarriesRow.wrBrightB1r0 (data : Word) (lanes : Lanes) : Statement (.wrBrightB1r0 data lanes) :=
  (packWrite_and_offset 10 lanes 2 data).trans rfl

theorem CarriesRow.wrBrightB1r1 (data : Word) (lanes : Lanes) : Statement (.wrBrightB1r1 data lanes) :=
  (packWrite_and_offset 10 lanes 3 data).trans rfl

theorem CarriesRow.wrBrightUnknown (off : Offset) (data : Word) (lanes : Lanes) : Statement (.wrBrightUnknown off data lanes) :=
  (packWrite_and_comp 10 lanes off data).trans rfl

theorem CarriesRow.reservedOpc0 (rest : BitVec 60) : Statement (.reservedOpc0 rest) := by
  show (0#4 ++ rest : BitVec (4 + 60)) &&& (BitVec.allOnes 4 ++ 0#60) = _
  rw [append_and, BitVec.and_allOnes, BitVec.and_zero]
  rfl

theorem CarriesRow.reservedOpc4to7 (rest : BitVec 62) : Statement (.reservedOpc4to7 rest) := by
  show (1#2 ++ rest : BitVec (2 + 62)) &&& (BitVec.allOnes 2 ++ 0#62) = _
  rw [append_and, BitVec.and_allOnes, BitVec.and_zero]
  rfl

theorem CarriesRow.reservedOpc8to15 (rest : BitVec 63) : Statement (.reservedOpc8to15 rest) := by
  show (1#1 ++ rest : BitVec (1 + 63)) &&& (BitVec.allOnes 1 ++ 0#63) = _
  rw [append_and, BitVec.and_allOnes, BitVec.and_zero]
  rfl

theorem CarriesRow.reservedComp (rest : BitVec 58) : Statement (.reservedComp rest) := by
  show (7#6 ++ rest : BitVec (6 + 58)) &&& (BitVec.allOnes 6 ++ 0#58) = _
  rw [append_and, BitVec.and_allOnes, BitVec.and_zero]
  rfl

end Sys2Proof.Laws
end

