-- ==== Sys2Proof/Laws/Pixels.lean ====
section
/-! SUPPORT. The pixel loops: the pixels of a clip, the places of a pixel buffer, and what a loop over the clip leaves at one pixel. -/

namespace Sys2Proof.Laws

open Sys2Proof.Config Sys2Proof.Machine Sys2Proof.Safety

/-! ## Loops -/

/-- A loop over distinct places, each iteration of which touches its own place only. -/
theorem foldl_at {σ π ν : Type} [DecidableEq π] (f : σ → π → σ) (r : σ → ν) (val : ν → ν) (q : π) :
    ∀ (ps : List π) (s : σ), ps.Nodup → (∀ t p, p ∈ ps → p ≠ q → r (f t p) = r t) →
      (∀ t, q ∈ ps → r (f t q) = val (r t)) → r (ps.foldl f s) = if q ∈ ps then val (r s) else r s
  | [], s, _, _, _ => by simp
  | p :: ps, s, hn, ho, hs => by
    have hn' := List.nodup_cons.1 hn
    rw [List.foldl_cons, foldl_at f r val q ps (f s p) hn'.2
      (fun t x hx hne => ho t x (List.mem_cons_of_mem _ hx) hne) (fun t hq => hs t (List.mem_cons_of_mem _ hq))]
    by_cases hpq : p = q
    · subst hpq
      simp [hn'.1, hs s List.mem_cons_self]
    · rw [ho s p List.mem_cons_self hpq]
      simp [Ne.symm hpq]

/-- A loop none of whose iterations changes what is read. -/
theorem foldl_keeps {σ π ν : Type} (f : σ → π → σ) (r : σ → ν) :
    ∀ (ps : List π) (s : σ), (∀ t p, p ∈ ps → r (f t p) = r t) → r (ps.foldl f s) = r s
  | [], _, _ => rfl
  | p :: ps, s, h => by
    rw [List.foldl_cons, foldl_keeps f r ps _ fun t x hx => h t x (List.mem_cons_of_mem _ hx), h s p List.mem_cons_self]

/-- A loop each of whose iterations keeps a property. -/
theorem foldl_induct {σ π : Type} (f : σ → π → σ) (P : σ → Prop) :
    ∀ (ps : List π) (s : σ), P s → (∀ t p, p ∈ ps → P t → P (f t p)) → P (ps.foldl f s)
  | [], _, h, _ => h
  | p :: ps, s, h, hs =>
    foldl_induct f P ps _ (hs s p List.mem_cons_self h) fun t x hx => hs t x (List.mem_cons_of_mem _ hx)

/-! ## The pixels of a clip -/

theorem mem_clipPixels {k : Clip} {p : Nat × Nat} : p ∈ clipPixels k ↔ k.Holds p.1 p.2 := by
  obtain ⟨x, y⟩ := p
  simp only [clipPixels, List.mem_flatMap, List.mem_map, List.mem_range'_1, Prod.mk.injEq, Clip.Holds]
  constructor
  · rintro ⟨y', ⟨h1, h2⟩, x', ⟨h3, h4⟩, rfl, rfl⟩; omega
  · rintro ⟨h1, h2, h3, h4⟩; exact ⟨y, by omega, x, by omega, rfl, rfl⟩

theorem nodup_clipPixels (k : Clip) : (clipPixels k).Nodup := by
  rw [clipPixels, List.nodup_flatMap]
  refine ⟨fun y _ => (List.nodup_range' (n := _)).map fun a b h => (Prod.mk.inj h).1, ?_⟩
  refine (List.nodup_range' (n := _)).imp fun {y y'} hne => ?_
  simp only [Function.onFun, List.disjoint_left, List.mem_map, not_exists, not_and]
  rintro p ⟨x, _, rfl⟩ x' _ h
  exact hne (Prod.mk.inj h).2.symm

/-- The clamped clip of a `RENDER` lies inside the bitmap. -/
theorem clampClip_in {c : Cfg} (hc : c.Legal) (minx maxx miny maxy : BitVec 12) :
    ClipIn c (clampClip c minx maxx miny maxy) := by
  have := hc.out_pos
  simp only [ClipIn, clampClip]; omega

/-! ## Places of a buffer -/

theorem pixelKey_inj {c : Cfg} {x y x' y' : Nat} (hx : x < c.outW) (hx' : x' < c.outW) :
    pixelKey c x y = pixelKey c x' y' ↔ x = x' ∧ y = y' := by
  constructor
  · intro h
    simp only [pixelKey] at h
    have hm : (y * c.outW + x) % c.outW = (y' * c.outW + x') % c.outW := by rw [h]
    rw [Nat.add_comm, Nat.add_mul_mod_self_right, Nat.mod_eq_of_lt hx, Nat.add_comm, Nat.add_mul_mod_self_right,
      Nat.mod_eq_of_lt hx'] at hm
    subst hm
    have : y * c.outW = y' * c.outW := by omega
    exact ⟨rfl, Nat.eq_of_mul_eq_mul_right (by omega) this⟩
  · rintro ⟨rfl, rfl⟩; rfl

theorem pixelKey_lt {c : Cfg} {x y : Nat} (hx : x < c.outW) (hy : y < c.outH) :
    pixelKey c x y < c.outW * c.outH := by
  have : (y + 1) * c.outW ≤ c.outH * c.outW := Nat.mul_le_mul_right _ hy
  simp only [pixelKey]
  rw [Nat.mul_comm c.outW c.outH]
  rw [Nat.add_mul] at this
  omega

/-! ## Stamps -/

variable {c : Cfg} {x y x' y' : Nat} (hx : x < c.outW) (hx' : x' < c.outW)

include hx hx' in
theorem tileColorAt_stampTile (v : Half) (tag : BitVec 3) (sc : Scratch) :
    tileColorAt c (stampTile c x' y' v tag sc) x y = if x = x' ∧ y = y' then v else tileColorAt c sc x y := by
  simp only [tileColorAt, stampTile, cellRead_cellWrite, pixelKey_inj hx hx']

include hx hx' in
theorem tileTagAt_stampTile (v : Half) (tag : BitVec 3) (sc : Scratch) :
    tileTagAt c (stampTile c x' y' v tag sc) x y = if x = x' ∧ y = y' then tag else tileTagAt c sc x y := by
  simp only [tileTagAt, stampTile, cellRead_cellWrite, pixelKey_inj hx hx']

include hx hx' in
theorem sprColorAt_stampSprite (v : Half) (pri : Nat) (sc : Scratch) :
    sprColorAt c (stampSprite c x' y' v pri sc) x y = if x = x' ∧ y = y' then v else sprColorAt c sc x y := by
  simp only [sprColorAt, stampSprite, cellRead_cellWrite, pixelKey_inj hx hx']

include hx hx' in
theorem sprPriAt_stampSprite (v : Half) (pri : Nat) (sc : Scratch) :
    sprPriAt c (stampSprite c x' y' v pri sc) x y =
      if x = x' ∧ y = y' then pri % 2 ^ c.sprPriBits else sprPriAt c sc x y := by
  simp only [sprPriAt, stampSprite, cellRead_cellWrite, pixelKey_inj hx hx']

@[simp] theorem sprColorAt_stampTile (v : Half) (tag : BitVec 3) (sc : Scratch) :
    sprColorAt c (stampTile c x' y' v tag sc) x y = sprColorAt c sc x y := rfl

@[simp] theorem sprPriAt_stampTile (v : Half) (tag : BitVec 3) (sc : Scratch) :
    sprPriAt c (stampTile c x' y' v tag sc) x y = sprPriAt c sc x y := rfl

@[simp] theorem tileColorAt_stampSprite (v : Half) (pri : Nat) (sc : Scratch) :
    tileColorAt c (stampSprite c x' y' v pri sc) x y = tileColorAt c sc x y := rfl

@[simp] theorem tileTagAt_stampSprite (v : Half) (pri : Nat) (sc : Scratch) :
    tileTagAt c (stampSprite c x' y' v pri sc) x y = tileTagAt c sc x y := rfl

include hx hx' in
/-- One pixel of the bitmap after `emit`. -/
theorem outAt_emit (v : Rgb) (o : Plane Rgb) :
    outAt c (emit c x' y' v o) x y = if x = x' ∧ y = y' then v else outAt c o x y := by
  simp only [outAt, emit, cellRead_cellWrite, pixelKey_inj hx hx']

/-! ## The draw of a layer -/

/-- The tile buffers at a pixel after a layer's draw: the layer's pixel where the clip holds it and it is opaque, and what stood
there before elsewhere (R85, R95). -/
theorem drawPlane_at {k : Clip} (hk : ClipIn c k) (hx : x < c.outW) (m : Storage) (L : Layer) (tag : BitVec 3)
    (coord : Nat → Nat → Nat × Nat) (sc : Scratch) :
    let g := samplePlane c m L (coord x y).1 (coord x y).2
    let after := drawPlane c m L tag coord k sc
    (tileColorAt c after x y, tileTagAt c after x y) =
      if k.Holds x y ∧ g.1 ≠ c.transpen L then (g.2, tag) else (tileColorAt c sc x y, tileTagAt c sc x y) := by
  intro g after
  have key := foldl_at (drawPixel c m L tag coord) (fun sc => (tileColorAt c sc x y, tileTagAt c sc x y))
    (fun v => if g.1 = c.transpen L then v else (g.2, tag)) (x, y) (clipPixels k) sc (nodup_clipPixels k)
    (fun t p hp hne => by
      have hp' : p.1 < c.outW := lt_of_le_of_lt (mem_clipPixels.1 hp).2.1 hk.1
      have hpq : ¬ (x = p.1 ∧ y = p.2) := fun h => hne (Prod.ext h.1.symm h.2.symm)
      simp only [drawPixel]
      split
      · rfl
      · rw [tileColorAt_stampTile hx hp', tileTagAt_stampTile hx hp']; simp [hpq])
    (fun t _ => by
      simp only [drawPixel]
      split
      · rfl
      · rw [tileColorAt_stampTile hx hx, tileTagAt_stampTile hx hx]; simp [g])
  simp only [mem_clipPixels] at key
  simp only [after, drawPlane, key]
  by_cases h1 : k.Holds x y <;> by_cases h2 : g.1 = c.transpen L <;> simp [h1, h2]

/-- A layer's draw changes no sprite buffer (R66). -/
theorem drawPlane_sprites (k : Clip) (m : Storage) (L : Layer) (tag : BitVec 3) (coord : Nat → Nat → Nat × Nat)
    (sc : Scratch) : (drawPlane c m L tag coord k sc).sprColor = sc.sprColor ∧
      (drawPlane c m L tag coord k sc).sprPri = sc.sprPri :=
  ⟨foldl_keeps _ Scratch.sprColor _ _ fun t p _ => by simp only [drawPixel]; split <;> rfl,
   foldl_keeps _ Scratch.sprPri _ _ fun t p _ => by simp only [drawPixel]; split <;> rfl⟩

/-! ## Clearing, sprites, and the pixel loop -/

/-- The four buffers at a pixel after the clearing phase: 0 inside the clip, as before outside (R144). -/
theorem clearScratch_at {k : Clip} (hk : ClipIn c k) (hx : x < c.outW) (sc : Scratch) :
    let r := fun t => (tileColorAt c t x y, tileTagAt c t x y, sprColorAt c t x y, sprPriAt c t x y)
    r (clearScratch c k sc) = if k.Holds x y then (0, 0, 0, 0) else r sc := by
  intro r
  have key := foldl_at (clearPixel c) r (fun _ => (0, 0, 0, 0)) (x, y) (clipPixels k) sc (nodup_clipPixels k)
    (fun t p hp hne => by
      have hp' : p.1 < c.outW := lt_of_le_of_lt (mem_clipPixels.1 hp).2.1 hk.1
      have hpq : ¬ (x = p.1 ∧ y = p.2) := fun h => hne (Prod.ext h.1.symm h.2.symm)
      simp [r, clearPixel, tileColorAt_stampTile hx hp', tileTagAt_stampTile hx hp', sprColorAt_stampSprite hx hp',
        sprPriAt_stampSprite hx hp', hpq])
    (fun t _ => by
      simp [r, clearPixel, tileColorAt_stampTile hx hx, tileTagAt_stampTile hx hx, sprColorAt_stampSprite hx hx,
        sprPriAt_stampSprite hx hx])
  simp only [mem_clipPixels] at key
  exact key

/-- A sprite changes no pixel outside the clip, and no tile buffer (R123, R127). -/
theorem drawSprite_outside (hc : c.Legal) {k : Clip} (hk : ClipIn c k) (hx : x < c.outW) (ho : ¬ k.Holds x y)
    (m : Storage) (sc : Scratch) (e : Nat) :
    sprColorAt c (drawSprite c m k sc e) x y = sprColorAt c sc x y ∧
      sprPriAt c (drawSprite c m k sc e) x y = sprPriAt c sc x y := by
  simp only [drawSprite]
  split
  · exact ⟨rfl, rfl⟩
  · have step : ∀ (t : Scratch) (p : SprPixel), p ∈ c.sprBlit c.sprGfx (spriteEntry c m e) k →
        p.x < c.outW ∧ ¬ (x = p.x ∧ y = p.y) := fun t p hp => by
      have hin := hc.blit.inside _ _ _ _ hp
      exact ⟨lt_of_le_of_lt hin.2.1 hk.1, fun h => ho (h.1 ▸ h.2 ▸ hin)⟩
    exact ⟨foldl_keeps _ (fun t => sprColorAt c t x y) _ _ fun t p hp => by
        rw [sprColorAt_stampSprite hx (step t p hp).1, if_neg (step t p hp).2],
      foldl_keeps _ (fun t => sprPriAt c t x y) _ _ fun t p hp => by
        rw [sprPriAt_stampSprite hx (step t p hp).1, if_neg (step t p hp).2]⟩

/-- A sprite changes no tile buffer (R125). -/
theorem drawSprite_tiles (m : Storage) (k : Clip) (sc : Scratch) (e : Nat) :
    (drawSprite c m k sc e).tileColor = sc.tileColor ∧ (drawSprite c m k sc e).tileTag = sc.tileTag := by
  simp only [drawSprite]
  split
  · exact ⟨rfl, rfl⟩
  · exact ⟨foldl_keeps _ Scratch.tileColor _ _ fun _ _ _ => rfl, foldl_keeps _ Scratch.tileTag _ _ fun _ _ _ => rfl⟩

/-- The bitmap at a pixel after the pixel loop: the composed colour inside the clip, as before outside (R144, R150). -/
theorem mixFrame_out_at {k : Clip} (hk : ClipIn c k) (hx : x < c.outW) (s : State) (sc : Scratch) :
    outAt c (mixFrame c s k sc).out x y =
      if k.Holds x y then
        composeRgb c (latchPalette s) (tileColorAt c sc x y) (sprColorAt c sc x y)
          (c.priLut (pixelMask c s.mem (sprPriAt c sc x y)) (tileTagAt c sc x y))
      else outAt c s.out x y := by
  have note : ∀ (mask : BitVec 8) (tag : BitVec 3) (a b : Nat) (t : MixState), (noteUnhandled mask tag a b t).out = t.out :=
    fun mask tag a b t => by simp only [noteUnhandled]; split <;> rfl
  have key := foldl_at (mixPixel c s.mem (latchPalette s) sc) (fun t => outAt c t.out x y)
    (fun _ => composeRgb c (latchPalette s) (tileColorAt c sc x y) (sprColorAt c sc x y)
          (c.priLut (pixelMask c s.mem (sprPriAt c sc x y)) (tileTagAt c sc x y)))
    (x, y) (clipPixels k) ⟨s.out, s.diagLog, s.unhandledCount, []⟩ (nodup_clipPixels k)
    (fun t p hp hne => by
      have hp' : p.1 < c.outW := lt_of_le_of_lt (mem_clipPixels.1 hp).2.1 hk.1
      have hpq : ¬ (x = p.1 ∧ y = p.2) := fun h => hne (Prod.ext h.1.symm h.2.symm)
      simp only [mixPixel, outAt_emit hx hp', if_neg hpq]
      split
      · rw [note]
      · rfl)
    (fun t _ => by simp only [mixPixel, outAt_emit hx hx, and_self, if_true])
  simp only [mem_clipPixels] at key
  exact key

end Sys2Proof.Laws
end

