-- ==== Sys2Proof/Tests/Slice0.lean ====
section
/-! SUPPORT. The model's own tests: ill-formed operations, a word of every constructor, one step of each kind on a small state, and for
every statement with hypotheses a state and operands that meet them. Expected results are the spec's examples or worked by hand from
its tables. -/

namespace Sys2Proof.Tests

open Sys2Proof.Config Sys2Proof.Machine Sys2Proof.Safety Sys2Proof.Laws

/-! ## Well-formedness -/

theorem test_illformed_layer_offset : (Instr.wrLayerUnknown 6 0 0xF).wf = false := by decide
theorem test_illformed_rozctrl_offset : (Instr.wrRozctrlUnknown 31 0 0xF).wf = false := by decide
theorem test_illformed_crtc_offset : (Instr.wrCrtcUnknown 6 0 0xF).wf = false := by decide
theorem test_illformed_bright_offset : (Instr.wrBrightUnknown 3 0 0xF).wf = false := by decide
theorem test_illformed_spare_mode : (Instr.wrRozctrlSpare 7 0 0xF).wf = false := by decide

/-! ## Decoding: `OPC | COMP | LANES | OFF | DATA`, written out from R55 and R60 -/

theorem test_decode_wrTxram : decode 0x10A1234589ABCDEF = .wrTxram 0x12345 0x89ABCDEF 0xA := by decide
theorem test_decode_wrBgram : decode 0x11A1234589ABCDEF = .wrBgram 0x12345 0x89ABCDEF 0xA := by decide
theorem test_decode_wrBgaltram : decode 0x12A1234589ABCDEF = .wrBgaltram 0x12345 0x89ABCDEF 0xA := by decide
theorem test_decode_wrRozram : decode 0x13A1234589ABCDEF = .wrRozram 0x12345 0x89ABCDEF 0xA := by decide
theorem test_decode_wrLayerTxScrollx : decode 0x1BA0000089ABCDEF = .wrLayerTxScrollx 0x89ABCDEF 0xA := by decide
theorem test_decode_wrLayerTxScrolly : decode 0x1BA0000189ABCDEF = .wrLayerTxScrolly 0x89ABCDEF 0xA := by decide
theorem test_decode_wrLayerBgScrollx : decode 0x1BA0000289ABCDEF = .wrLayerBgScrollx 0x89ABCDEF 0xA := by decide
theorem test_decode_wrLayerBgScrolly : decode 0x1BA0000389ABCDEF = .wrLayerBgScrolly 0x89ABCDEF 0xA := by decide
theorem test_decode_wrLayerBgaltScrollx : decode 0x1BA0000489ABCDEF = .wrLayerBgaltScrollx 0x89ABCDEF 0xA := by decide
theorem test_decode_wrLayerBgaltScrolly : decode 0x1BA0000589ABCDEF = .wrLayerBgaltScrolly 0x89ABCDEF 0xA := by decide
theorem test_decode_wrLayerBgLayout : decode 0x1BA0000689ABCDEF = .wrLayerBgLayout 0x89ABCDEF 0xA := by decide
theorem test_decode_wrLayerUnknown : decode 0x1BA0000789ABCDEF = .wrLayerUnknown 7 0x89ABCDEF 0xA := by decide
theorem test_decode_wrLineram : decode 0x14A1234589ABCDEF = .wrLineram 0x12345 0x89ABCDEF 0xA := by decide
theorem test_decode_wrRozctrlStartxLo : decode 0x18A0000089ABCDEF = .wrRozctrlStartxLo 0x89ABCDEF 0xA := by decide
theorem test_decode_wrRozctrlStartxHi : decode 0x18A0000189ABCDEF = .wrRozctrlStartxHi 0x89ABCDEF 0xA := by decide
theorem test_decode_wrRozctrlStartyLo : decode 0x18A0000289ABCDEF = .wrRozctrlStartyLo 0x89ABCDEF 0xA := by decide
theorem test_decode_wrRozctrlStartyHi : decode 0x18A0000389ABCDEF = .wrRozctrlStartyHi 0x89ABCDEF 0xA := by decide
theorem test_decode_wrRozctrlIncxxLo : decode 0x18A0000489ABCDEF = .wrRozctrlIncxxLo 0x89ABCDEF 0xA := by decide
theorem test_decode_wrRozctrlIncxxHi : decode 0x18A0000589ABCDEF = .wrRozctrlIncxxHi 0x89ABCDEF 0xA := by decide
theorem test_decode_wrRozctrlIncxyLo : decode 0x18A0000689ABCDEF = .wrRozctrlIncxyLo 0x89ABCDEF 0xA := by decide
theorem test_decode_wrRozctrlIncxyHi : decode 0x18A0000789ABCDEF = .wrRozctrlIncxyHi 0x89ABCDEF 0xA := by decide
theorem test_decode_wrRozctrlIncyyLo : decode 0x18A0000889ABCDEF = .wrRozctrlIncyyLo 0x89ABCDEF 0xA := by decide
theorem test_decode_wrRozctrlIncyyHi : decode 0x18A0000989ABCDEF = .wrRozctrlIncyyHi 0x89ABCDEF 0xA := by decide
theorem test_decode_wrRozctrlIncyxLo : decode 0x18A0000A89ABCDEF = .wrRozctrlIncyxLo 0x89ABCDEF 0xA := by decide
theorem test_decode_wrRozctrlIncyxHi : decode 0x18A0000B89ABCDEF = .wrRozctrlIncyxHi 0x89ABCDEF 0xA := by decide
theorem test_decode_wrRozctrlOffx : decode 0x18A0000C89ABCDEF = .wrRozctrlOffx 0x89ABCDEF 0xA := by decide
theorem test_decode_wrRozctrlOffy : decode 0x18A0000D89ABCDEF = .wrRozctrlOffy 0x89ABCDEF 0xA := by decide
theorem test_decode_wrRozctrlOffselx : decode 0x18A0000E89ABCDEF = .wrRozctrlOffselx 0x89ABCDEF 0xA := by decide
theorem test_decode_wrRozctrlOffsely : decode 0x18A0000F89ABCDEF = .wrRozctrlOffsely 0x89ABCDEF 0xA := by decide
theorem test_decode_wrRozctrlMode : decode 0x18A0001789ABCDEF = .wrRozctrlMode 0x89ABCDEF 0xA := by decide
theorem test_decode_wrRozctrlSpare : decode 0x18A0001889ABCDEF = .wrRozctrlSpare 8 0x89ABCDEF 0xA := by decide
theorem test_decode_wrRozctrlUnknown : decode 0x18A0002089ABCDEF = .wrRozctrlUnknown 32 0x89ABCDEF 0xA := by decide
theorem test_decode_wrSprram : decode 0x15A1234589ABCDEF = .wrSprram 0x12345 0x89ABCDEF 0xA := by decide
theorem test_decode_vblank : decode 0x2FEDCBA987654321 = .vblank := by decide
theorem test_decode_wrCrtcCtrl : decode 0x19A0000089ABCDEF = .wrCrtcCtrl 0x89ABCDEF 0xA := by decide
theorem test_decode_wrCrtcHblank : decode 0x19A0000189ABCDEF = .wrCrtcHblank 0x89ABCDEF 0xA := by decide
theorem test_decode_wrCrtcHdisp : decode 0x19A0000289ABCDEF = .wrCrtcHdisp 0x89ABCDEF 0xA := by decide
theorem test_decode_wrCrtcVblank : decode 0x19A0000389ABCDEF = .wrCrtcVblank 0x89ABCDEF 0xA := by decide
theorem test_decode_wrCrtcVdisp : decode 0x19A0000489ABCDEF = .wrCrtcVdisp 0x89ABCDEF 0xA := by decide
theorem test_decode_wrCrtcPorchBack : decode 0x19A0000589ABCDEF = .wrCrtcPorchBack 0x89ABCDEF 0xA := by decide
theorem test_decode_wrCrtcPorchFront : decode 0x19A0000689ABCDEF = .wrCrtcPorchFront 0x89ABCDEF 0xA := by decide
theorem test_decode_wrCrtcUnknown : decode 0x19A0000789ABCDEF = .wrCrtcUnknown 7 0x89ABCDEF 0xA := by decide
theorem test_decode_wrPriram : decode 0x17A1234589ABCDEF = .wrPriram 0x12345 0x89ABCDEF 0xA := by decide
theorem test_decode_render : decode 0x3ABC0011400223F0 = .render 0x001 0x140 0x022 0x3F0 := by decide
theorem test_decode_wrPalram : decode 0x16A1234589ABCDEF = .wrPalram 0x12345 0x89ABCDEF 0xA := by decide
theorem test_decode_wrBrightB0r0 : decode 0x1AA0000089ABCDEF = .wrBrightB0r0 0x89ABCDEF 0xA := by decide
theorem test_decode_wrBrightB0r1 : decode 0x1AA0000189ABCDEF = .wrBrightB0r1 0x89ABCDEF 0xA := by decide
theorem test_decode_wrBrightB1r0 : decode 0x1AA0000289ABCDEF = .wrBrightB1r0 0x89ABCDEF 0xA := by decide
theorem test_decode_wrBrightB1r1 : decode 0x1AA0000389ABCDEF = .wrBrightB1r1 0x89ABCDEF 0xA := by decide
theorem test_decode_wrBrightUnknown : decode 0x1AA0000489ABCDEF = .wrBrightUnknown 4 0x89ABCDEF 0xA := by decide
theorem test_decode_reservedOpc0 : decode 0x0123456789ABCDEF = .reservedOpc0 0x123456789ABCDEF := by decide
theorem test_decode_reservedOpc4to7 : decode 0x5123456789ABCDEF = .reservedOpc4to7 0x1123456789ABCDEF := by decide
theorem test_decode_reservedOpc8to15 : decode 0xF123456789ABCDEF = .reservedOpc8to15 0x7123456789ABCDEF := by decide
theorem test_decode_reservedComp : decode 0x1D23456789ABCDEF = .reservedComp 0x123456789ABCDEF := by decide

theorem test_decode_table_word : decodeTableWord 64 0x10F0000200001234 = some (.wrTxram 2 0x1234 0xF) := by decide

/-! ## A small legal configuration -/

/-- Grids of four 2 by 2 cells, a 4 by 2 bitmap, the slot program of R154, one sprite of one pixel, an opaque BG and nothing else. -/
def cfgW : Cfg where
  cols := fun _ => 2
  rows := fun _ => 2
  tw := fun _ => 2
  th := fun _ => 2
  outW := 4
  outH := 2
  priWords := 0x100
  slotProgram := slotProgramRef
  tileGfx := fun L _ _ _ _ => if L = .bg then (1, 5) else (0, 0)
  sprGfx := fun _ _ _ _ => (1, 7)
  sprLayout := fun w =>
    { (default : SpriteEntry) with disable := (w 0).getLsbD 0, pri := 3, xsize := 1, ysize := 1, sx := 1, sy := 1, xzoom := 1, yzoom := 1 }
  resetProfile := .zero

theorem cfgW_legal : cfgW.Legal where
  cols_pos := fun _ => Nat.succ_pos 1
  rows_pos := fun _ => Nat.succ_pos 1
  tw_pos := fun _ => Nat.succ_pos 1
  th_pos := fun _ => Nat.succ_pos 1
  tags_nonzero := by decide
  tags_distinct := by decide
  colorBank_eq := fun _ => rfl
  transpen_eq := fun _ => rfl
  sprTranspen_eq := rfl
  rozFracBits_eq := rfl
  palEntries_eq := rfl
  placeholder_eq := rfl
  blit := blitContract_sampled magnify_scales magnify_scales rfl
  priWords_pos := by decide
  sprEntries_pos := by decide
  slot_three := rfl
  slot_cells := by decide
  lut_masks := legal_default.lut_masks
  lut_blend := legal_default.lut_blend
  blendKeep_le := by decide
  lut_zero := by decide
  slot_zero := by decide
  slot_zero_tie := by decide
  default_pos := by decide
  out_pos := by decide

/-- The start of a run under `cfgW`. -/
def st0 : State := State.resetOf cfgW

/-- The next state of an outcome. -/
def nextOf : Host.Outcome State Fault Refusal → State
  | .next t => t
  | .fault _ => st0
  | .refused _ => st0

/-- The whole bitmap of `cfgW`. -/
def clipW : Clip := ⟨0, 3, 0, 1⟩

/-! ## One step -/

/-- R70: `WR TXRAM, 2, 0x1234` sets `TXRAM[2]`. -/
theorem test_storage_write : wordAt cfgW (memWrite cfgW .txram 0 2 0x1234 0xF st0).mem .txram 2 = 0x1234 := by decide

/-- R71: lane 0 only. -/
theorem test_storage_lane :
    wordAt cfgW (memWrite cfgW .bgram 1 1 0xFF 0x1 (memWrite cfgW .bgram 1 1 0xAABBCCDD 0xF st0)).mem .bgram 1 =
      0xAABBCCFF := by decide

/-- R43: the last word of the table, and one past it. -/
theorem test_storage_last : (memWrite cfgW .txram 0 7 1 0xF st0).diagLog = [] := by decide
theorem test_storage_past : (memWrite cfgW .txram 0 8 1 0xF st0).diagLog = [.offsetRange 0 8] := by decide

/-- R116: `WR LINERAM, 0x804, 0` appends `DIAG_OFFSET_RANGE`; its boundary is 2048. -/
theorem test_lineram_past : (nextOf (exec (.wrLineram 0x804 0 0xF) st0)).diagLog = [.offsetRange 4 0x804] := by decide
theorem test_lineram_boundary : (nextOf (exec (.wrLineram 2048 0 0xF) st0)).diagLog = [.offsetRange 4 2048] := by decide

/-- R42: no lanes, no record. -/
theorem test_no_lanes : (nextOf (exec (.wrLineram 2048 0 0) st0)).diagLog = [] := by decide

/-- A write of the reset contents lists nothing (log 8). -/
theorem test_storage_canonical : (memWrite cfgW .txram 0 2 0 0xF (memWrite cfgW .txram 0 2 0x1234 0xF st0)).mem.txram = [] := by
  decide

/-- R74: the addressed lanes of a scroll register. -/
theorem test_scroll_lanes :
    (nextOf (exec (.wrLayerTxScrolly 0x11223344 0x5) (st0.setLayer .txScrollY 0xAABBCCDD))).layer.txScrollY = 0xAA22CC44 := by
  decide

/-- R82: `WR LAYER.7, 5`. -/
theorem test_layer_unknown : (nextOf (exec (.wrLayerUnknown 7 5 0xF) st0)).diagLog = [.unknownReg 11 7 5] := by decide

/-- R97, R98: `STARTX_LO = 0x0010` gives 16; a set bit 17 makes it negative (R14). -/
theorem test_startx : rozStartX (nextOf (exec (.wrRozctrlStartxLo 0x10 0xF) st0)).rozctrl = 16 := by decide
theorem test_startx_negative : rozStartX (nextOf (exec (.wrRozctrlStartxHi 0x3 0xF) st0)).rozctrl = -65536 := by decide

/-- R114: `WR ROZ.16, 0x1234`. -/
theorem test_spare : (nextOf (exec (.wrRozctrlSpare 0 0x1234 0xF) st0)).rozctrl[16] = 0x1234 := by decide

/-- R118: `VBLANK` copies the live buffer. -/
theorem test_vblank : wordAt cfgW (latchSprites cfgW (memWrite cfgW .sprLive 5 0 0x104 0xF st0)).mem .sprDisp 0 = 0x104 := by
  decide

/-- R135: `WR CRTC.HDISP, 0x0EC0` gives `HD = 320`; raw 0x1000 is clamped to 1 and logged. -/
theorem test_hdisp : (nextOf (exec (.wrCrtcHdisp 0xEC0 0xF) st0)).geom.visW = 320 := by decide
theorem test_hdisp_clamp : (nextOf (exec (.wrCrtcHdisp 0x1000 0xF) st0)).geom.visW = 1 ∧
    (nextOf (exec (.wrCrtcHdisp 0x1000 0xF) st0)).diagLog = [.geometryClamp 0x1000 0 0x1000 0x1000] := by decide

/-- R134: raw 0x1000 is an H-blank width of 0, which is legal; 0x1001 is not. -/
theorem test_hblank_zero : (nextOf (exec (.wrCrtcHblank 0x1000 0xF) st0)).diagLog = [] := by decide
theorem test_hblank_negative : (nextOf (exec (.wrCrtcHblank 0x1001 0xF) st0)).diagLog.length = 1 := by decide

/-- R132: lanes 2 and 3 alone have no effect. -/
theorem test_crtc_lanes : (nextOf (exec (.wrCrtcCtrl 0x3 0xC) st0)).flipX.tx = false := by decide

/-- R133: `WR CRTC.CTRL, 0x3` flips all four layers. -/
theorem test_flip : (nextOf (exec (.wrCrtcCtrl 0x3 0xF) st0)).flipY = ⟨true, true, true, true⟩ := by decide

/-- R138: `WR CRTC.PORCH_BACK, 0x10`. -/
theorem test_porch : (nextOf (exec (.wrCrtcPorchBack 0x10 0xF) st0)).diagLog = [.porch 5 0x10] := by decide

/-- R161: `WR BRIGHT.B0R0, 0x8040` under `BRIGHT_BANK = 0` gives 128 and 192. -/
theorem test_brightness : (brightWrite cfgW .b0 .r0 0x8040 0xF st0).scales = ⟨128, 192, 256⟩ := by decide

/-- R163: a write to the other bank changes no scale. -/
theorem test_other_bank : (brightWrite cfgW .b1 .r0 0xFFFF 0xF st0).scales = ⟨256, 256, 256⟩ := by decide

/-- R160: entry 1 = (0xFF, 0x80, 0x40) at full scale; R155: half the red at scale 128. -/
theorem test_convert :
    convert cfgW (latchPalette (memWrite cfgW .palram 6 3 0x40 0xF (memWrite cfgW .palram 6 2 0xFF80 0xF st0))) 1 =
      ⟨0xFF, 0x80, 0x40⟩ := by decide
theorem test_scale : scaleChannel 0xFF 128 = 0x7F := by decide

/-- R154: an all-zero `PRIRAM` gives text 0, background 1, ROZ 2. -/
theorem test_slots : resolveSlots cfgW st0.mem = ⟨0, 1, 2⟩ := by decide

/-- R176: a reserved word is logged whole. -/
theorem test_reserved : (nextOf (exec (decode 0xF123456789ABCDEF) st0)).diagLog = [.badOp 0xF123456789ABCDEF] := by decide

/-- R150: a frame of one pixel: the opaque background shows palette entry 5. -/
theorem test_render : outAt cfgW (renderClip cfgW ⟨0, 0, 0, 0⟩
    (memWrite cfgW .palram 6 10 0x1234 0xF st0)).out 0 0 = ⟨0x12, 0x34, 0⟩ := by decide

/-- R151: an unhandled pixel shows the placeholder, is counted and logged. -/
theorem test_unhandled : (renderClip { cfgW with priPattern := fun _ => 1 } ⟨0, 0, 0, 0⟩
    (st0.setMem .priram [(0, 1)])).diagLog = [.unhandledMask 0xFF 1 0 0] := by decide

/-- The step takes the first delivered word. -/
theorem test_step : (nextOf (step (st0.withFetchWord 64 0x1BF0000000000008))).layer.txScrollX = 8 := by decide

/-! ## Hypotheses of the statements -/

theorem witness_wf_boundaries : (Instr.wrLayerUnknown 7 0 0).wf = true ∧ (Instr.wrRozctrlUnknown 32 0 0).wf = true ∧
    (Instr.wrCrtcUnknown 7 0 0).wf = true ∧ (Instr.wrBrightUnknown 4 0 0).wf = true ∧
    (Instr.wrRozctrlSpare 6 0 0).wf = true ∧ (Instr.wrRozctrlSpare 8 0 0).wf = true := by decide

/-- ReservedWordsLogged, each clause at its boundaries. -/
theorem witness_reserved_words : fieldOpc 0 = 0 ∧ 4 ≤ (fieldOpc 0x4000000000000000).toNat ∧
    4 ≤ (fieldOpc 0xFFFFFFFFFFFFFFFF).toNat ∧ fieldOpc 0x1C00000000000000 = 1 ∧ 12 ≤ (fieldComp 0x1C00000000000000).toNat ∧
    ¬ 12 ≤ (fieldComp 0x1BFFFFFFFFFFFFFF).toNat := by decide

theorem witness_reserved_instr : Reserved (.reservedComp 0) := trivial

/-- UnassignedOffsetsLogged, each clause at its boundaries. -/
theorem witness_unassigned_offsets :
    (fieldComp 0x18F0002000000000 = 8 ∧ (fieldOff 0x18F0002000000000).toNat = 32) ∧
    (fieldComp 0x19F0000700000000 = 9 ∧ (fieldOff 0x19F0000700000000).toNat = 7) ∧
    (fieldComp 0x1AF0000400000000 = 10 ∧ (fieldOff 0x1AF0000400000000).toNat = 4) ∧
    (fieldComp 0x1BF0000700000000 = 11 ∧ (fieldOff 0x1BF0000700000000).toNat = 7) ∧
    (fieldOff 0x18F0001000000000).toNat = 16 ∧ (fieldOff 0x18F0001600000000).toNat = 22 ∧
    (fieldOff 0x18F0001800000000).toNat = 24 ∧ (fieldOff 0x18F0001F00000000).toNat = 31 := by decide

theorem witness_unknown_write : (Instr.wrCrtcUnknown 7 1 0xF, (9 : BitVec 4)) ∈ unknownWrites 7 1 0xF := by decide

/-- StorageWriteMergesLanes and StorageWriteIsBytewise: every space of the machine has a word in range. -/
theorem witness_storage_in_range : (0xF : Lanes) ≠ 0 ∧ ∀ p ∈ storageWrites 0 1 0xF, (0 : Offset).toNat < spaceSize cfg p.2.1 :=
  ⟨by decide, fun p _ => spaceSize_pos cfg_legal p.2.1⟩

/-- The last word of `LINERAM` and the first offset past it, and the same of `PALRAM`. -/
theorem witness_storage_boundaries : (2047 : Offset).toNat < spaceSize cfg .lineram ∧ spaceSize cfg .lineram ≤ (2048 : Offset).toNat ∧
    (0xFFFF : Offset).toNat < spaceSize cfg .palram ∧ spaceSize cfg .palram ≤ (0x10000 : Offset).toNat := by
  simp only [spaceSize, cfg_legal.palEntries_eq]; decide

theorem witness_legal : ∃ c : Cfg, c.Legal ∧ ClipIn c clipW := ⟨cfgW, cfgW_legal, by unfold ClipIn; decide⟩

theorem witness_layer_write : (Instr.wrLayerBgLayout 1 0xF, LayerReg.bgLayout) ∈ layerWrites 1 0xF := by decide
theorem witness_rozctrl_write : (Instr.wrRozctrlMode 1 0xF, (23 : Fin 32)) ∈ rozctrlWrites 1 0xF := by decide
theorem witness_geometry_write : (Instr.wrCrtcVdisp 1 0xF, CrtcReg.vdisp) ∈ geometryWrites 1 0xF := by decide
theorem witness_porch_write : (Instr.wrCrtcPorchFront 8 0x1, CrtcReg.porchFront, 6) ∈ porchWrites 8 0x1 := by decide
theorem witness_brightness_write : (Instr.wrBrightB1r1 8 0x2, Bank.b1, BrtReg.r1) ∈ brightnessWrites 8 0x2 := by decide

/-- UnchangedBrightnessWriteDoesNothing: both lanes written with what the register holds. -/
theorem witness_unchanged_brightness : (Instr.wrBrightB0r0 0x8040 0x3, Bank.b0, BrtReg.r0) ∈ brightnessWrites 0x8040 0x3 ∧
    ∀ k, k < 2 → (0x3 : Lanes).getLsbD k = true → (0x8040 : Word).extractLsb' (8 * k) 8 =
      ((st0.setBrt .b0 .r0 0x8040).brt.get .b0 .r0).extractLsb' (8 * k) 8 := by decide

/-- SourceGeometryExample, BrightnessSetupSequence, WrrozSetsField, WordsTakeEffectInOrder. -/
theorem witness_empty_stream : State.reset.stream = [] := rfl

/-- PaletteConversion, at both ends of the scales. -/
theorem witness_scales : ScalesOk (st0.setScales ⟨256, 256, 256⟩).scales ∧ ScalesOk (st0.setScales ⟨0, 0, 0⟩).scales := by
  unfold ScalesOk; decide

theorem witness_unscaled_index : Nat.testBit 0x4000 14 = true ∧ (0x4000 : Half).getLsbD 14 = true := by decide

/-- VblankLatchesSprites: a word of the class with every ignored bit set. -/
theorem witness_vblank_word : fieldOpc 0x2FFFFFFFFFFFFFFF = 2 := by decide

/-- A state of a run: the invariant holds with words delivered. -/
theorem inv_of_delivered (c : Cfg) (hc : c.Legal) (ws : List OpWord) : Inv c ((State.resetOf c).setStream ws) where
  mem := fun sp => ⟨reset_mem_wf c sp, by cases sp <;> simp [State.resetOf, Storage.get]⟩
  bgalt := fun _ => rfl
  tileColor := ⟨rfl, by simp [State.resetOf]⟩
  tileTag := ⟨rfl, by simp [State.resetOf]⟩
  sprColor := ⟨rfl, by simp [State.resetOf]⟩
  sprPri := ⟨rfl, by simp [State.resetOf]⟩
  out := ⟨rfl, by simp [State.resetOf]⟩
  sprPri_range := fun a => by
    have := Nat.two_pow_pos c.sprPriBits
    simp only [setStream_scratch, State.resetOf, cellRead, sprPri0, profiled]
    split
    · exact Nat.mod_lt _ this
    · exact this
  scales := by simp only [setStream_scales, State.resetOf, profiled, ScalesOk]; split <;> dsimp only <;> omega
  latchRam := ⟨rfl, by simp [State.resetOf]⟩
  latchScales := by simp only [setStream_palLatch, State.resetOf, profiled, ScalesOk]; split <;> dsimp only <;> omega
  geom := hc.default_pos
  counted := Nat.zero_le _

/-- EveryStepKeepsInvariant and SecondVblankChangesNothing: a state with the invariant, a `VBLANK` delivered, that steps. -/
theorem witness_invariant_step : let s := State.reset.setStream [0x2000000000000000]
    Inv cfg s ∧ step s = .next (latchSprites cfg (s.setStream [])) ∧ exec .vblank s = .next (latchSprites cfg s) :=
  ⟨inv_of_delivered cfg cfg_legal _, rfl, rfl⟩

/-- VblankLatchesSprites, between two `VBLANK`s: none, and a `RENDER`, delivered. -/
theorem witness_between_vblanks : let s := st0.setStream [0x300000013F0000DF]
    (0 ≤ s.stream.length ∧ s.stream.take 0 = []) ∧ 1 ≤ s.stream.length ∧
      ∀ w ∈ s.stream.take 1, ∀ off data lanes, decode w ≠ .wrSprram off data lanes := by
  refine ⟨⟨Nat.zero_le _, rfl⟩, Nat.le_refl 1, fun w hw off data lanes => ?_⟩
  obtain rfl := List.mem_singleton.1 hw
  rw [show decode 0x300000013F0000DF = .render 0 319 0 223 by decide]
  exact Instr.noConfusion

/-- SkippedSpriteDrawsNothing: the three reasons. -/
theorem witness_skipped : (spriteEntry cfgW (st0.setMem .sprDisp [(0, 1)]).mem 0).disable = true ∧
    (spriteEntry {} (State.resetOf {}).mem 0).xzoom = 0 ∧ (spriteEntry {} (State.resetOf {}).mem 0).yzoom = 0 := by decide

/-- LastSpriteOfWalkWins and TopmostOpaqueLayerShows: an entry that covers a pixel of the clip, and a pixel that none covers. -/
theorem witness_sprite_covers : spriteOrder cfgW = [] ++ 0 :: [] ∧ SpriteCovers cfgW st0.mem clipW 0 1 1 7 ∧
    (1 < cfgW.outW ∧ ClipIn cfgW clipW) ∧ ∀ e ∈ spriteOrder cfgW, ∀ q, ¬ SpriteCovers cfgW st0.mem clipW e 2 1 q := by
  have blit : cfgW.sprBlit cfgW.sprGfx (spriteEntry cfgW st0.mem 0) clipW = [⟨1, 1, 7⟩] := by decide
  refine ⟨by decide, by unfold SpriteCovers; decide, by unfold ClipIn; decide, fun e he q h => ?_⟩
  obtain rfl : e = 0 := by simpa [spriteOrder, cfgW] using he
  have := h.2
  rw [blit] at this
  simp at this

/-- SpriteWalkOrder: both orders. -/
theorem witness_orders : cfgW.sprOrder = .ascending ∧ ({ cfgW with sprOrder := .descending } : Cfg).sprOrder = .descending :=
  ⟨rfl, rfl⟩

/-- SpritesStayInClip: a pixel of the bitmap outside a clip. -/
theorem witness_outside : ClipIn cfgW ⟨0, 1, 0, 0⟩ ∧ 2 < cfgW.outW ∧ ¬ Clip.Holds ⟨0, 1, 0, 0⟩ 2 0 := by
  unfold ClipIn; decide

/-- FlipMirrorsSprite and ZoomScalesSprite: an entry and opaque graphics; two columns of one clip that mirror each other. -/
theorem witness_flip_zoom : let e : SpriteEntry := { (default : SpriteEntry) with xsize := 2, ysize := 1, xzoom := 2, yzoom := 1 }
    cfgW.Legal ∧ (0 < e.xzoom ∧ 0 < e.yzoom) ∧ (∀ code color px py, (cfgW.sprGfx code color px py).1 ≠ cfgW.sprTranspen) ∧
      clipW.Holds 0 0 ∧ clipW.Holds 3 0 ∧ ((0 : Nat) : Int) + (3 : Nat) = 2 * (0 + 0) + (4 : Nat) - 1 :=
  ⟨cfgW_legal, by decide, fun _ _ _ _ => Nat.one_ne_zero, by decide, by decide, by decide⟩

/-- R123 items 4 and 5 at work: a row of two pixels, magnified twice, unflipped and flipped. -/
theorem test_blit_flip : let e : SpriteEntry := { (default : SpriteEntry) with xsize := 2, ysize := 1, xzoom := 2, yzoom := 1 }
    let row := fun e => (cfgW.sprBlit (fun _ _ px _ => (1, if px = 0 then 5 else 6)) e clipW).map fun p => (p.x, p.palidx)
    row e = [(0, 5), (1, 5), (2, 6), (3, 6)] ∧ row { e with flipx := true } = [(0, 6), (1, 6), (2, 5), (3, 5)] := by decide

theorem witness_reference_blit : cfgRef.sprBlit = blitRef cfgRef.sprTranspen := rfl

/-- ReferenceConfigurationLegal: an all-zero `PRIRAM`. -/
theorem witness_zero_priram : ∀ i, wordAt cfgRef (State.resetOf cfgRef).mem .priram i = 0 := fun _ => by
  show (0#8 ++ 0#8 ++ 0#8 ++ 0#8 : BitVec 32) = 0
  decide

/-- ScrollLayerDraw and RozLayerDraw: a pixel of the clip with its source coordinate. -/
theorem witness_scroll_draw : ClipIn cfgW clipW ∧ 3 < cfgW.outW ∧ clipW.Holds 3 1 ∧
    ((1 : Nat) : Int) = (((3 : Nat) : Int) + (((st0.setLayer .bgScrollX 2).layer.bgScrollX.toNat : Nat) : Int)) %
      ((cfgW.cols .bg * cfgW.tw .bg : Nat) : Int) ∧
    ((1 : Nat) : Int) = (((1 : Nat) : Int) + (((st0.setLayer .bgScrollX 2).layer.bgScrollY.toNat : Nat) : Int)) %
      ((cfgW.rows .bg * cfgW.th .bg : Nat) : Int) := by
  unfold ClipIn; decide

/-- FlipMirrorsLayer, at both ends of the visible rectangle. -/
theorem witness_visible : let s := st0.setGeometry ⟨320, 224, 384, 263⟩ 0
    0 < s.geom.visW ∧ 319 < s.geom.visW ∧ 0 < s.geom.visH ∧ 223 < s.geom.visH := by decide

/-- RozUnitMatrixScrolls. -/
theorem witness_unit_matrix : let s := (st0.setRozctrl 4 0x100).setRozctrl 8 0x100
    s.rozctrl[23].getLsbD 0 = false ∧ s.flipX.roz = false ∧ s.flipY.roz = false ∧ rozIncXX s.rozctrl = 0x100 ∧
      rozIncYY s.rozctrl = 0x100 ∧ rozIncXY s.rozctrl = 0 ∧ rozIncYX s.rozctrl = 0 := by decide

/-- WrrozSetsField, at both ends of the range. -/
theorem witness_field_ends : (-131072 : Int) ≤ -131072 ∧ (-131072 : Int) ≤ 131071 ∧ low18 (-131072) = 0 ∧ high18 (-131072) = 2 ∧
    low18 131071 = 0xFFFF ∧ high18 131071 = 1 := by decide

/-- DrawOrderIsSlotOrder: both modes, a slot shared by two layers and a slot that is not drawn. -/
theorem witness_slot_modes : cfgW.slotTieMode = .drawAll ∧
    (drawOrder cfgW st0.layer ⟨3, 3, 4⟩).map (·.1) = [.scroll .bg, .scroll .tx] ∧
    (drawOrder { cfgW with slotTieMode := .firstOnly } st0.layer ⟨3, 3, 0⟩).map (·.1) = [.roz, .scroll .bg] := by decide

/-- RenderWritesClampedClip: a pixel of every bitmap, inside one clip and outside another. -/
theorem witness_bitmap_pixel : 0 < cfg.outW ∧ 0 < cfg.outH ∧ (0 : BitVec 12).toNat ≤ 0 ∧ ¬ (1 : BitVec 12).toNat ≤ 0 :=
  ⟨cfg_legal.out_pos.1, cfg_legal.out_pos.2, by decide, by decide⟩

/-- TopmostOpaqueLayerShows: the background is the last opaque layer of the order. -/
theorem witness_topmost : clipW.Holds 1 1 ∧
    drawOrder cfgW st0.layer (resolveSlots cfgW st0.mem) =
      [(.scroll .tx, 0, 3)] ++ (.scroll .bg, 1, 1) :: [(.roz, 2, 2)] ∧
    Opaque cfgW st0 (.scroll .bg) 1 1 ∧ ¬ Opaque cfgW st0 .roz 1 1 := by
  unfold Opaque; decide

/-- FrameDependsOnInputsOnly: two states that differ in the live sprites, a spare word, the bitmap and the log. -/
theorem witness_same_inputs :
    SameInputs st0 (badOp 0 ((st0.setMem .sprLive [(0, 1)]).setRozctrl 16 1)) ∧
      st0 ≠ badOp 0 ((st0.setMem .sprLive [(0, 1)]).setRozctrl 16 1) := by
  refine ⟨⟨fun sp h => ?_, by decide, fun L => ⟨rfl, rfl⟩, rfl, rfl, rfl, rfl, rfl, rfl⟩, fun h => ?_⟩
  · exact (storage_get_set_other st0.mem [(0, 1)] h).symm
  · exact absurd (congrArg State.diagLog h) (by decide)

/-- UnhandledPixelsCountedAndLogged: a clip with an unhandled pixel. -/
theorem witness_unhandled : unhandledPixels { cfgW with priPattern := fun _ => 1 } (st0.setMem .priram [(0, 1)]).mem
    st0.scratch ⟨0, 0, 0, 0⟩ = [(0, 0)] := by decide

/-- AllZeroPriorityShowsBackground: all of its premises together. -/
theorem witness_all_zero : let s := st0.setMem .sprDisp [(0, 1)]
    cfgW.Legal ∧ ClipIn cfgW clipW ∧ (∀ i, i < cfgW.priWords → wordAt cfgW s.mem .priram i = 0) ∧
    (∀ e, e < cfgW.sprEntries → spriteSkipped (spriteEntry cfgW s.mem e) = true) ∧
    (∀ x y, clipW.Holds x y → Opaque cfgW s (.scroll (backgroundLayer s.layer)) x y ∧
      (targetSample cfgW s (.scroll (backgroundLayer s.layer)) x y).2 = 5 ∧
      ¬ Opaque cfgW s (.scroll .tx) x y ∧ ¬ Opaque cfgW s .roz x y) ∧ clipW.Holds 0 0 := by
  have one : (1 : Nat) ≠ 0 := by decide
  have zero : (0#8 ++ 0#8 ++ 0#8 ++ 0#8 : BitVec 32) = 0 := by decide
  refine ⟨cfgW_legal, by unfold ClipIn; decide, fun _ _ => zero, by decide, fun x y _ => ?_, by decide⟩
  exact ⟨one, rfl, fun h => h rfl, fun h => h rfl⟩

/-- SpriteWriteUnseenBeforeVblank and the statements about any operation that answers a next state. -/
theorem witness_exec_next : (∃ u, exec (.wrSprram 0 1 0xF) st0 = .next u ∧ ∃ v, exec (.render 0 3 0 1) u = .next v) ∧
    (∃ t, exec (.render 0 3 0 1) st0 = .next t) ∧ (∃ t, exec .vblank st0 = .next t) ∧
    IsRender (.render 0 3 0 1) ∧ ¬ IsRender .vblank :=
  ⟨⟨_, rfl, _, rfl⟩, ⟨_, rfl⟩, ⟨_, rfl⟩, ⟨_, _, _, _, rfl⟩, by rintro ⟨_, _, _, _, h⟩; cases h⟩

/-- StepRunsDecodedOperation: a delivered word of a well-formed operation. -/
theorem witness_delivered : Instr.vblank.wf = true ∧ (st0.setStream (encode .vblank :: [])).stream = encode .vblank :: [] :=
  ⟨rfl, rfl⟩

/-- ResetValues: a configuration of the `ZERO` profile. -/
theorem witness_zero_profile : cfgW.resetProfile = .zero := rfl

end Sys2Proof.Tests
end

section
/-!
The 18-bit fields of the ROZ layer (R59, R88): their bits as a number below `2^18`, then their value in two's complement.
-/
namespace Sys2Proof.Proofs

open Sys2Proof.Machine

/-- `{HI[1:0], LO[15:0]}` as a number (R59): the two parts do not overlap, so joining them is addition. -/
theorem toNat_field18_bits (lo hi : Word) :
    (hi.extractLsb' 0 2 ++ lo.extractLsb' 0 16).toNat = lo.toNat % 2 ^ 16 + 2 ^ 16 * (hi.toNat % 4) := by
  have low_lt : (lo.extractLsb' 0 16).toNat < 2 ^ 16 := BitVec.isLt _
  rw [BitVec.toNat_append, ← Nat.shiftLeft_add_eq_or_of_lt low_lt, Nat.shiftLeft_eq]
  simp only [BitVec.extractLsb'_toNat, Nat.shiftRight_zero]
  omega

/-- `sext_18` of the field (R14): bit 17 weighs `-2^17`. -/
theorem field18_eq (lo hi : Word) :
    let v : Nat := lo.toNat % 2 ^ 16 + 2 ^ 16 * (hi.toNat % 4)
    field18 lo hi = if v < 2 ^ 17 then (v : Int) else (v : Int) - 2 ^ 18 := by
  intro v
  have sign_clear_iff : 2 * v < 2 ^ (2 + 16) ↔ v < 2 ^ 17 := by omega
  have bits : (hi.extractLsb' 0 2 ++ lo.extractLsb' 0 16).toNat = v := toNat_field18_bits lo hi
  rw [field18, sext, BitVec.toInt_eq_toNat_cond, bits]
  simp only [sign_clear_iff]
  rfl

theorem le_field18 (lo hi : Word) : -131072 ≤ field18 lo hi := BitVec.le_toInt _

theorem field18_le (lo hi : Word) : field18 lo hi ≤ 131071 := Int.le_of_lt_add_one BitVec.toInt_lt

/-- Settles O36: the value of the field is `field18_eq`, and its range is that of any 18-bit two's complement number. -/
theorem rozFieldSignExtends : Obligations.RozFieldSignExtends :=
  fun lo hi => ⟨field18_eq lo hi, le_field18 lo hi, field18_le lo hi⟩

end Sys2Proof.Proofs
end

section
/-!
The operations by shape: the 54 arms of `exec` are eleven uses of the shared operations, so that a statement about every operation is
proved once for each shared operation.
-/
namespace Sys2Proof.Proofs

open Sys2Proof.Config Sys2Proof.Machine Sys2Proof.Safety Sys2Proof.Laws

/-- An operation and the change of state it stands for, by its shape (R39, R60, R177). -/
inductive Effect : Instr → (State → State) → Prop
  | storage {off : Offset} {data : Word} {lanes : Lanes} {i : Instr} {sp : Space} {comp : BitVec 4}
      (listed : (i, sp, comp) ∈ storageWrites off data lanes) : Effect i (memWrite cfg sp comp off data lanes)
  | layerReg {data : Word} {lanes : Lanes} {i : Instr} {k : LayerReg}
      (listed : (i, k) ∈ layerWrites data lanes) : Effect i (layerWrite k data lanes)
  | rozctrl {data : Word} {lanes : Lanes} {i : Instr} {k : Fin 32}
      (listed : (i, k) ∈ rozctrlWrites data lanes) : Effect i (rozWrite k data lanes)
  | rozctrlSpare (k : BitVec 4) (data : Word) (lanes : Lanes) :
      Effect (.wrRozctrlSpare k data lanes) (rozWrite (Fin.ofNat 32 (16 + k.toNat)) data lanes)
  | geometry {data : Word} {lanes : Lanes} {i : Instr} {k : CrtcReg}
      (listed : (i, k) ∈ geometryWrites data lanes) : Effect i (crtcWrite cfg k data lanes)
  | porch {data : Word} {lanes : Lanes} {i : Instr} {k : CrtcReg} {n : Nat}
      (listed : (i, k, n) ∈ porchWrites data lanes) : Effect i (crtcWrite cfg k data lanes)
  | brightness {data : Word} {lanes : Lanes} {i : Instr} {b : Bank} {r : BrtReg}
      (listed : (i, b, r) ∈ brightnessWrites data lanes) : Effect i (brightWrite cfg b r data lanes)
  | unknown {off : Offset} {data : Word} {lanes : Lanes} {i : Instr} {comp : BitVec 4}
      (listed : (i, comp) ∈ unknownWrites off data lanes) : Effect i (unknownReg comp off data lanes)
  | reserved {i : Instr} (listed : Reserved i) : Effect i (badOp (encode i))
  | vblank : Effect .vblank (latchSprites cfg)
  | render (minx maxx miny maxy : BitVec 12) :
      Effect (.render minx maxx miny maxy) (renderClip cfg (clampClip cfg minx maxx miny maxy))

/-- The table that a `WR_BGALTRAM` writes, as the list of storage writes names it (R22, R72). -/
theorem tableSpace_bgalt (c : Cfg) :
    tableSpace c .bgalt = if c.bgaltTableMode = .shared then .bgram else .bgaltram := by
  unfold tableSpace
  cases c.bgaltTableMode <;> rfl

/-- Every operation completes, and has one of the shapes (R174). -/
theorem exists_effect (i : Instr) : ∃ f, Effect i f ∧ ∀ s, exec i s = .next (f s) := by
  cases i with
  | wrBgaltram off data lanes =>
    exact ⟨_, .storage (by simp [storageWrites, tableSpace_bgalt]), fun _ => rfl⟩
  | wrTxram off data lanes | wrBgram off data lanes | wrRozram off data lanes | wrLineram off data lanes
  | wrSprram off data lanes | wrPalram off data lanes | wrPriram off data lanes =>
    refine ⟨_, .storage ?_, fun _ => rfl⟩
    simp [storageWrites]
  | wrLayerTxScrollx data lanes | wrLayerTxScrolly data lanes | wrLayerBgScrollx data lanes
  | wrLayerBgScrolly data lanes | wrLayerBgaltScrollx data lanes | wrLayerBgaltScrolly data lanes
  | wrLayerBgLayout data lanes =>
    refine ⟨_, .layerReg ?_, fun _ => rfl⟩
    simp [layerWrites]
  | wrRozctrlStartxLo data lanes | wrRozctrlStartxHi data lanes | wrRozctrlStartyLo data lanes
  | wrRozctrlStartyHi data lanes | wrRozctrlIncxxLo data lanes | wrRozctrlIncxxHi data lanes
  | wrRozctrlIncxyLo data lanes | wrRozctrlIncxyHi data lanes | wrRozctrlIncyyLo data lanes
  | wrRozctrlIncyyHi data lanes | wrRozctrlIncyxLo data lanes | wrRozctrlIncyxHi data lanes
  | wrRozctrlOffx data lanes | wrRozctrlOffy data lanes | wrRozctrlOffselx data lanes
  | wrRozctrlOffsely data lanes | wrRozctrlMode data lanes =>
    refine ⟨_, .rozctrl ?_, fun _ => rfl⟩
    simp [rozctrlWrites]
  | wrRozctrlSpare k data lanes => exact ⟨_, .rozctrlSpare k data lanes, fun _ => rfl⟩
  | wrCrtcCtrl data lanes | wrCrtcHblank data lanes | wrCrtcHdisp data lanes | wrCrtcVblank data lanes
  | wrCrtcVdisp data lanes =>
    refine ⟨_, .geometry ?_, fun _ => rfl⟩
    simp [geometryWrites]
  | wrCrtcPorchBack data lanes => exact ⟨_, .porch (n := 5) (by simp [porchWrites]), fun _ => rfl⟩
  | wrCrtcPorchFront data lanes => exact ⟨_, .porch (n := 6) (by simp [porchWrites]), fun _ => rfl⟩
  | wrBrightB0r0 data lanes | wrBrightB0r1 data lanes | wrBrightB1r0 data lanes | wrBrightB1r1 data lanes =>
    refine ⟨_, .brightness ?_, fun _ => rfl⟩
    simp [brightnessWrites]
  | wrRozctrlUnknown off data lanes | wrCrtcUnknown off data lanes | wrBrightUnknown off data lanes
  | wrLayerUnknown off data lanes =>
    refine ⟨_, .unknown ?_, fun _ => rfl⟩
    simp [unknownWrites]
  | reservedOpc0 rest | reservedOpc4to7 rest | reservedOpc8to15 rest | reservedComp rest =>
    exact ⟨_, .reserved trivial, fun _ => rfl⟩
  | vblank => exact ⟨_, .vblank, fun _ => rfl⟩
  | render minx maxx miny maxy => exact ⟨_, .render minx maxx miny maxy, fun _ => rfl⟩

/-- An operation that leads from `s` to `t` does so by the effect of its shape. -/
theorem effect_of_exec {i : Instr} {s t : State} (h : exec i s = .next t) : ∃ f, Effect i f ∧ t = f s := by
  obtain ⟨f, effect, completes⟩ := exists_effect i
  rw [completes] at h
  exact ⟨f, effect, (Host.Outcome.next.inj h).symm⟩

end Sys2Proof.Proofs
end

section
/-!
What each shared operation can do, beside the lemmas of Laws/Ops: the frames of the storage write and of an unassigned register, and
all that a CRTC write and a brightness write can do.
-/
namespace Sys2Proof.Proofs

open Sys2Proof.Config Sys2Proof.Machine Sys2Proof.Safety Sys2Proof.Laws

variable (c : Cfg)

/-- What a storage write leaves alone: everything but the memory and the log (R43, R178). -/
theorem memWrite_frame (sp : Space) (comp : BitVec 4) (off : Offset) (data : Word) (lanes : Lanes) (s : State) :
    let t := memWrite c sp comp off data lanes s
    t = { s with mem := t.mem, diagLog := t.diagLog } := by
  intro t
  obtain ⟨-, e⟩ | ⟨-, -, e⟩ | ⟨-, -, v, -, e⟩ := memWrite_cases c sp comp off data lanes s
  · simp only [t, e]
  · simp only [t, e]; rfl
  · simp only [t, e]; rfl

/-- A storage write changes no space but the one it writes (R43). -/
theorem memWrite_get_other {sp sp' : Space} (other : sp' ≠ sp) (comp : BitVec 4) (off : Offset) (data : Word)
    (lanes : Lanes) (s : State) : (memWrite c sp comp off data lanes s).mem.get sp' = s.mem.get sp' := by
  obtain ⟨-, e⟩ | ⟨-, -, e⟩ | ⟨-, -, v, -, e⟩ := memWrite_cases c sp comp off data lanes s
  · rw [e]
  · rw [e, appendDiag_mem]
  · rw [e, setMem_mem, storage_get_set_other _ _ other]

/-- What a write to an unassigned register offset leaves alone: everything but the log (R177). -/
theorem unknownReg_frame (comp : BitVec 4) (off : Offset) (data : Word) (lanes : Lanes) (s : State) :
    let t := unknownReg comp off data lanes s
    t = { s with diagLog := t.diagLog } := by
  intro t
  obtain ⟨-, e⟩ | ⟨-, e⟩ := unknownReg_cases comp off data lanes s
  · simp only [t, e]
  · simp only [t, e]; rfl

/-- All that a CRTC write can do: nothing without a lane; else, with the register written, `CRTC_CTRL` propagates the flip and
recomputes, a width recomputes, and a porch is logged (R132). -/
theorem crtcWrite_cases (k : CrtcReg) (data : Word) (lanes : Lanes) (s : State) :
    let u := s.setCrtc k (mergeLanes16 (s.crtc.get k) data (lanes16 lanes))
    (lanes16 lanes = 0 ∧ crtcWrite c k data lanes s = s) ∨
    (k = .ctrl ∧ crtcWrite c k data lanes s = recompute c (propagateFlip u)) ∨
    (k ∈ [.hblank, .hdisp, .vblank, .vdisp] ∧ crtcWrite c k data lanes s = recompute c u) ∨
    (k ∈ [.porchBack, .porchFront] ∧ ∃ n, crtcWrite c k data lanes s = u.appendDiag (.porch n (u.crtc.get k))) := by
  intro u
  by_cases no_lane : lanes16 lanes = 0
  · exact .inl ⟨no_lane, if_pos no_lane⟩
  · have written : crtcWrite c k data lanes s = crtcEffect c k u := if_neg no_lane
    rw [written]
    cases k with
    | ctrl => exact .inr (.inl ⟨rfl, rfl⟩)
    | hblank | hdisp | vblank | vdisp => exact .inr (.inr (.inl ⟨by decide, rfl⟩))
    | porchBack => exact .inr (.inr (.inr ⟨by decide, 5, rfl⟩))
    | porchFront => exact .inr (.inr (.inr ⟨by decide, 6, rfl⟩))

/-- All that a brightness write can do: nothing without a lane or with the value the register holds; else the register changes, and
the scales are recomputed when it is one of `BRIGHT_BANK` (R159). -/
theorem brightWrite_cases (b : Bank) (r : BrtReg) (data : Word) (lanes : Lanes) (s : State) :
    let new := mergeLanes16 (s.brt.get b r) data (lanes16 lanes)
    brightWrite c b r data lanes s = s ∨
    (b ≠ c.brightBank ∧ brightWrite c b r data lanes s = s.setBrt b r new) ∨
    (b = c.brightBank ∧ new ≠ s.brt.get b r ∧
      brightWrite c b r data lanes s = (s.setBrt b r new).setScales (scalesOf (s.brt.set b r new) b)) := by
  intro new
  by_cases no_lane : lanes16 lanes = 0
  · exact .inl (if_pos no_lane)
  have written : brightWrite c b r data lanes s =
      if b = c.brightBank ∧ new ≠ s.brt.get b r then (s.setBrt b r new).setScales (scalesOf (s.brt.set b r new) b)
      else s.setBrt b r new := if_neg no_lane
  rw [written]
  by_cases bank : b = c.brightBank
  · by_cases same : new = s.brt.get b r
    · refine .inl ?_
      rw [if_neg fun h => h.2 same, same, State.setBrt, brt_set_get_self]
    · exact .inr (.inr ⟨bank, same, if_pos ⟨bank, same⟩⟩)
  · exact .inr (.inl ⟨bank, if_neg fun h => bank h.1⟩)

end Sys2Proof.Proofs
end

section
/-!
The diagnostics of an operation (R36, R174, R181).
-/
namespace Sys2Proof.Proofs

open Sys2Proof.Config Sys2Proof.Machine Sys2Proof.Safety Sys2Proof.Laws

/-- The log of `t` is that of `s` with at most one record appended, and none of `DIAG_UNHANDLED_MASK`. -/
def LogsAtMostOne (s t : State) : Prop :=
  ∃ new, t.diagLog = s.diagLog ++ new ∧ new.length ≤ 1 ∧ ∀ d ∈ new, d.code ≠ 6

theorem LogsAtMostOne.of_eq {s t : State} (same : t.diagLog = s.diagLog) : LogsAtMostOne s t :=
  ⟨[], by rw [same, List.append_nil], Nat.zero_le 1, by simp⟩

theorem LogsAtMostOne.of_append {s t : State} {d : Diag} (appended : t.diagLog = s.diagLog ++ [d]) (code : d.code ≠ 6) :
    LogsAtMostOne s t :=
  ⟨[d], appended, Nat.le_refl 1, by simpa using code⟩

variable (c : Cfg)

theorem memWrite_logsAtMostOne (sp : Space) (comp : BitVec 4) (off : Offset) (data : Word) (lanes : Lanes) (s : State) :
    LogsAtMostOne s (memWrite c sp comp off data lanes s) := by
  obtain ⟨-, e⟩ | ⟨-, -, e⟩ | ⟨-, -, v, -, e⟩ := memWrite_cases c sp comp off data lanes s <;> rw [e]
  · exact .of_eq rfl
  · exact .of_append (appendDiag_diagLog s _) (by simp [Diag.code])
  · exact .of_eq (setMem_diagLog s sp v)

theorem unknownReg_logsAtMostOne (comp : BitVec 4) (off : Offset) (data : Word) (lanes : Lanes) (s : State) :
    LogsAtMostOne s (unknownReg comp off data lanes s) := by
  obtain ⟨-, e⟩ | ⟨-, e⟩ := unknownReg_cases comp off data lanes s <;> rw [e]
  · exact .of_eq rfl
  · exact .of_append (appendDiag_diagLog s _) (by simp [Diag.code])

/-- The geometry recomputation logs at most the clamp (R179). -/
theorem recompute_logsAtMostOne (s : State) : LogsAtMostOne s (recompute c s) := by
  refine ⟨_, congrArg State.diagLog (recompute_eq c s), ?_⟩
  split
  · exact ⟨Nat.le_refl 1, by simp [Diag.code]⟩
  · exact ⟨Nat.zero_le 1, by simp⟩

theorem crtcWrite_logsAtMostOne (k : CrtcReg) (data : Word) (lanes : Lanes) (s : State) :
    LogsAtMostOne s (crtcWrite c k data lanes s) := by
  obtain ⟨-, e⟩ | ⟨-, e⟩ | ⟨-, e⟩ | ⟨-, n, e⟩ := crtcWrite_cases c k data lanes s <;> rw [e]
  · exact .of_eq rfl
  · exact recompute_logsAtMostOne c (propagateFlip (s.setCrtc k _))
  · exact recompute_logsAtMostOne c (s.setCrtc k _)
  · exact .of_append (appendDiag_diagLog _ _) (by simp [Diag.code])

/-- The pixel loop has appended only `DIAG_UNHANDLED_MASK` records to the log of `s`, and its count is not below that of `s`. -/
def OnlyUnhandledSince (s : State) (t : MixState) : Prop :=
  (∃ new, t.log = s.diagLog ++ new ∧ ∀ d ∈ new, d.code = 6) ∧ s.unhandledCount ≤ t.count

theorem noteUnhandled_onlyUnhandledSince {s : State} {t : MixState} (h : OnlyUnhandledSince s t) (mask : BitVec 8)
    (tag : BitVec 3) (x y : Nat) : OnlyUnhandledSince s (noteUnhandled mask tag x y t) := by
  obtain ⟨⟨new, log_eq, codes⟩, count_le⟩ := h
  unfold noteUnhandled
  split
  · exact ⟨⟨new, log_eq, codes⟩, Nat.le_succ_of_le count_le⟩
  · refine ⟨⟨new ++ [.unhandledMask mask tag x y], ?_, fun d hd => ?_⟩, Nat.le_succ_of_le count_le⟩
    · simp only [log_eq, List.append_assoc]
    · rcases List.mem_append.1 hd with old | latest
      · exact codes d old
      · rw [List.mem_singleton.1 latest]; rfl

theorem mixPixel_onlyUnhandledSince {s : State} {t : MixState} (h : OnlyUnhandledSince s t) (m : Storage) (p : PalLatch)
    (sc : Scratch) (q : Nat × Nat) : OnlyUnhandledSince s (mixPixel c m p sc t q) := by
  have noted : OnlyUnhandledSince s (if c.priLut (pixelCase c m sc q).1 (pixelCase c m sc q).2 = .unhandled then
      noteUnhandled (pixelCase c m sc q).1 (pixelCase c m sc q).2 q.1 q.2 t else t) := by
    split
    · exact noteUnhandled_onlyUnhandledSince h _ _ _ _
    · exact h
  exact noted

/-- A frame logs only `DIAG_UNHANDLED_MASK` records, and the count does not fall (R151, R180). -/
theorem renderClip_diagnostics (k : Clip) (s : State) :
    let t := renderClip c k s
    (∃ new, t.diagLog = s.diagLog ++ new ∧ ∀ d ∈ new, d.code = 6) ∧ s.unhandledCount ≤ t.unhandledCount := by
  have start : OnlyUnhandledSince s ⟨s.out, s.diagLog, s.unhandledCount, []⟩ :=
    ⟨⟨[], (List.append_nil _).symm, by simp⟩, Nat.le_refl _⟩
  exact foldl_induct _ (OnlyUnhandledSince s) (clipPixels k) _ start fun _ q _ h =>
    mixPixel_onlyUnhandledSince c h s.mem (latchPalette s) (renderScratch c s k) q

variable {i : Instr} {f : State → State}

/-- Every operation but a `RENDER` logs at most one record, and none of `DIAG_UNHANDLED_MASK` (R181). -/
theorem Effect.logsAtMostOne (effect : Effect i f) (no_render : ¬ IsRender i) (s : State) : LogsAtMostOne s (f s) := by
  cases effect with
  | storage => exact memWrite_logsAtMostOne cfg _ _ _ _ _ s
  | layerReg | rozctrl | rozctrlSpare | vblank => exact .of_eq rfl
  | geometry | porch => exact crtcWrite_logsAtMostOne cfg _ _ _ s
  | brightness => exact .of_eq (by rw [brightWrite_frame])
  | unknown => exact unknownReg_logsAtMostOne _ _ _ _ s
  | reserved => exact .of_append (appendDiag_diagLog s _) (by simp [Diag.code])
  | render minx maxx miny maxy => exact absurd ⟨minx, maxx, miny, maxy, rfl⟩ no_render

/-- Every operation but a `RENDER` keeps the count of unhandled pixels (R36). -/
theorem Effect.unhandledCount (effect : Effect i f) (no_render : ¬ IsRender i) (s : State) :
    (f s).unhandledCount = s.unhandledCount := by
  cases effect with
  | storage => rw [memWrite_frame]
  | layerReg | rozctrl | rozctrlSpare | vblank | reserved => rfl
  | geometry | porch => rw [crtcWrite_frame]
  | brightness => rw [brightWrite_frame]
  | unknown => rw [unknownReg_frame]
  | render minx maxx miny maxy => exact absurd ⟨minx, maxx, miny, maxy, rfl⟩ no_render

/-- A vertical blank logs nothing (R118). -/
theorem exec_vblank_diagLog {s t : State} (h : exec .vblank s = .next t) : t.diagLog = s.diagLog := by
  obtain rfl := Host.Outcome.next.inj h
  exact setMem_diagLog s .sprDisp _

/-- Settles O55: a `RENDER` by its pixel loop, any other operation by its shape. -/
theorem diagnosticsOnlyAppended : Obligations.DiagnosticsOnlyAppended := by
  intro i s t h
  by_cases render : IsRender i
  · have not_vblank : i ≠ .vblank := by
      obtain ⟨_, _, _, _, rfl⟩ := render
      exact Instr.noConfusion
    have frame : (∃ new, t.diagLog = s.diagLog ++ new ∧ ∀ d ∈ new, d.code = 6) ∧
        s.unhandledCount ≤ t.unhandledCount := by
      obtain ⟨_, _, _, _, rfl⟩ := render
      obtain rfl := Host.Outcome.next.inj h
      exact renderClip_diagnostics cfg _ s
    obtain ⟨⟨new, appended, codes⟩, count_le⟩ := frame
    exact ⟨⟨new, appended, absurd render, (absurd · not_vblank)⟩,
      fun _ => ⟨new, appended, fun d hd => by rw [codes d hd]; decide⟩, absurd render, count_le, absurd render⟩
  · obtain ⟨f, effect, t_eq⟩ := effect_of_exec h
    have count : t.unhandledCount = s.unhandledCount := t_eq ▸ effect.unhandledCount render s
    obtain ⟨new, appended, length_le, codes⟩ : LogsAtMostOne s t := t_eq ▸ effect.logsAtMostOne render s
    have vblank_silent : i = .vblank → new = [] := by
      rintro rfl
      exact List.self_eq_append_right.1 ((exec_vblank_diagLog h).symm.trans appended)
    exact ⟨⟨new, appended, fun _ => length_le, vblank_silent⟩, (absurd · render),
      fun _ => ⟨new, appended, fun d hd => by simpa using codes d hd⟩, count.ge, fun _ => count⟩

end Sys2Proof.Proofs
end

section
/-!
Which operation may change what: the storage spaces, the brightness scales, the flip bits and the geometry.
-/
namespace Sys2Proof.Proofs

open Sys2Proof.Config Sys2Proof.Machine Sys2Proof.Safety Sys2Proof.Laws

variable {i : Instr} {f : State → State} {s t : State}

/-! ## Storage spaces -/

/-- A space changes only under a `VBLANK`, which writes `SPR_DISP`, and under the storage writes that name it (R24, R39). -/
theorem Effect.mem_get (effect : Effect i f) (s : State) (sp : Space) :
    (f s).mem.get sp = s.mem.get sp ∨ (i = .vblank ∧ sp = .sprDisp) ∨
      ∃ off data lanes comp, (i, sp, comp) ∈ storageWrites off data lanes := by
  cases effect with
  | @storage off data lanes i sp' comp listed =>
    by_cases same : sp = sp'
    · subst same
      exact .inr (.inr ⟨off, data, lanes, comp, listed⟩)
    · exact .inl (memWrite_get_other cfg same comp off data lanes s)
  | layerReg | rozctrl | rozctrlSpare | reserved | render => exact .inl rfl
  | geometry | porch => exact .inl (by rw [crtcWrite_frame])
  | brightness => exact .inl (by rw [brightWrite_frame])
  | unknown => exact .inl (by rw [unknownReg_frame])
  | vblank =>
    by_cases disp : sp = .sprDisp
    · exact .inr (.inl ⟨rfl, disp⟩)
    · exact .inl (storage_get_set_other s.mem (copySprites cfg s.mem) disp)

/-- No storage write names `SPR_DISP` (R39). -/
theorem sprDisp_not_written {off : Offset} {data : Word} {lanes : Lanes} {comp : BitVec 4} :
    (i, Space.sprDisp, comp) ∉ storageWrites off data lanes := by
  cases mode : cfg.bgaltTableMode <;> simp [storageWrites, mode]

/-- Only `WR_SPRRAM` names `SPR_LIVE` (R39). -/
theorem eq_wrSprram_of_writes_sprLive {off : Offset} {data : Word} {lanes : Lanes} {comp : BitVec 4}
    (listed : (i, Space.sprLive, comp) ∈ storageWrites off data lanes) : i = .wrSprram off data lanes := by
  have row : i = .wrSprram off data lanes ∧ comp = 5 := by
    cases mode : cfg.bgaltTableMode <;> simpa [storageWrites, mode] using listed
  exact row.1

/-- Only `WR_BGALTRAM` names `BGALTRAM`, and that under `SEPARATE` (R22, R39). -/
theorem eq_wrBgaltram_of_writes_bgaltram {off : Offset} {data : Word} {lanes : Lanes} {comp : BitVec 4}
    (listed : (i, Space.bgaltram, comp) ∈ storageWrites off data lanes) :
    cfg.bgaltTableMode = .separate ∧ i = .wrBgaltram off data lanes := by
  cases mode : cfg.bgaltTableMode with
  | separate =>
    have row : i = .wrBgaltram off data lanes ∧ comp = 2 := by simpa [storageWrites, mode] using listed
    exact ⟨rfl, row.1⟩
  | shared => simp [storageWrites, mode] at listed

/-- Settles O57: `Effect.mem_get` at each of the three spaces. -/
theorem spriteBuffersAreOwned : Obligations.SpriteBuffersAreOwned := by
  intro i s t h
  obtain ⟨f, effect, rfl⟩ := effect_of_exec h
  refine ⟨fun not_vblank => ?_, fun not_sprram => ?_, ?_⟩
  · obtain kept | ⟨vblank, -⟩ | ⟨off, data, lanes, comp, listed⟩ := effect.mem_get s .sprDisp
    · exact kept
    · exact absurd vblank not_vblank
    · exact absurd listed sprDisp_not_written
  · obtain kept | ⟨-, other⟩ | ⟨off, data, lanes, comp, listed⟩ := effect.mem_get s .sprLive
    · exact kept
    · exact absurd other (by decide)
    · exact absurd (eq_wrSprram_of_writes_sprLive listed) (not_sprram off data lanes)
  · obtain kept | ⟨-, other⟩ | ⟨off, data, lanes, comp, listed⟩ := effect.mem_get s .bgaltram
    · exact .inl kept
    · exact absurd other (by decide)
    · obtain ⟨separate, rfl⟩ := eq_wrBgaltram_of_writes_bgaltram listed
      exact .inr ⟨separate, off, data, lanes, rfl⟩

/-! ## Brightness scales -/

/-- The scales follow the registers of `BRIGHT_BANK` from `s` to `t`: both are kept, or a register of the bank differs and the scales
are what the bank gives in `t` (R31, R159). -/
def ScalesFollow (c : Cfg) (s t : State) : Prop :=
  ((∀ r, t.brt.get c.brightBank r = s.brt.get c.brightBank r) ∧ t.scales = s.scales) ∨
  ((∃ r, t.brt.get c.brightBank r ≠ s.brt.get c.brightBank r) ∧ t.scales = scalesOf t.brt c.brightBank)

theorem ScalesFollow.of_eq {c : Cfg} (brt : t.brt = s.brt) (scales : t.scales = s.scales) : ScalesFollow c s t :=
  .inl ⟨fun r => by rw [brt], scales⟩

theorem brightWrite_scalesFollow (c : Cfg) (b : Bank) (r : BrtReg) (data : Word) (lanes : Lanes) (s : State) :
    ScalesFollow c s (brightWrite c b r data lanes s) := by
  obtain e | ⟨other, e⟩ | ⟨rfl, changed, e⟩ := brightWrite_cases c b r data lanes s <;> rw [e]
  · exact .of_eq rfl rfl
  · have kept : ∀ r', (c.brightBank, r') ≠ (b, r) := fun _ same => other (congrArg Prod.fst same).symm
    exact .inl ⟨fun r' => brt_get_set_other s.brt _ (kept r'), rfl⟩
  · exact .inr ⟨⟨r, by simpa using changed⟩, rfl⟩

theorem Effect.scalesFollow (effect : Effect i f) (s : State) : ScalesFollow cfg s (f s) := by
  cases effect with
  | storage => exact .of_eq (by rw [memWrite_frame]) (by rw [memWrite_frame])
  | layerReg | rozctrl | rozctrlSpare | reserved | vblank | render => exact .of_eq rfl rfl
  | geometry | porch => exact .of_eq (by rw [crtcWrite_frame]) (by rw [crtcWrite_frame])
  | brightness => exact brightWrite_scalesFollow cfg _ _ _ _ s
  | unknown => exact .of_eq (by rw [unknownReg_frame]) (by rw [unknownReg_frame])

/-- Settles O58: `Effect.scalesFollow`, with the two registers of a bank spelled out. -/
theorem scalesFollowSelectedBank : Obligations.ScalesFollowSelectedBank := by
  intro i s t h
  obtain ⟨f, effect, rfl⟩ := effect_of_exec h
  obtain ⟨kept, scales⟩ | ⟨⟨r, changed⟩, scales⟩ := effect.scalesFollow s
  · rw [if_pos ⟨kept .r0, kept .r1⟩]
    exact scales
  · rw [if_neg fun ⟨same_r0, same_r1⟩ => changed (by cases r <;> assumption)]
    exact scales

/-! ## Flip bits and geometry -/

/-- The flip bits change only under a write to `CRTC_CTRL`, and then all eight are its new bit 0 (R131). -/
theorem crtcWrite_flips (c : Cfg) (k : CrtcReg) (data : Word) (lanes : Lanes) (s : State) :
    let t := crtcWrite c k data lanes s
    (t.flipX = s.flipX ∧ t.flipY = s.flipY) ∨
      (k = .ctrl ∧ t.flipX = .all (t.crtc.ctrl.getLsbD 0) ∧ t.flipY = .all (t.crtc.ctrl.getLsbD 0)) := by
  intro t
  obtain ⟨-, e⟩ | ⟨ctrl, e⟩ | ⟨-, e⟩ | ⟨-, n, e⟩ := crtcWrite_cases c k data lanes s
  · exact .inl ⟨congrArg State.flipX e, congrArg State.flipY e⟩
  · simp only [t, e, recompute_eq]
    exact .inr ⟨ctrl, rfl, rfl⟩
  · simp only [t, e, recompute_eq]
    exact .inl ⟨rfl, rfl⟩
  · simp only [t, e]
    exact .inl ⟨rfl, rfl⟩

/-- A porch write changes neither the geometry nor the refresh rate (R138, R139). -/
theorem crtcWrite_porch_geometry (c : Cfg) {k : CrtcReg} (porch : k ∈ [CrtcReg.porchBack, .porchFront]) (data : Word)
    (lanes : Lanes) (s : State) :
    (crtcWrite c k data lanes s).geom = s.geom ∧ (crtcWrite c k data lanes s).refresh = s.refresh := by
  obtain ⟨-, e⟩ | ⟨rfl, -⟩ | ⟨width, -⟩ | ⟨-, n, e⟩ := crtcWrite_cases c k data lanes s
  · rw [e]; exact ⟨rfl, rfl⟩
  · exact absurd porch (by decide)
  · cases k <;> simp at porch width
  · rw [e]; exact ⟨rfl, rfl⟩

theorem mem_porch_of_porchWrites {data : Word} {lanes : Lanes} {k : CrtcReg} {n : Nat}
    (listed : (i, k, n) ∈ porchWrites data lanes) : k ∈ [CrtcReg.porchBack, .porchFront] := by
  simp only [porchWrites, List.mem_cons, Prod.mk.injEq, List.not_mem_nil, or_false] at listed ⊢
  exact listed.imp (·.2.1) (·.2.1)

theorem eq_wrCrtcCtrl_of_geometryWrites {data : Word} {lanes : Lanes}
    (listed : (i, CrtcReg.ctrl) ∈ geometryWrites data lanes) : i = .wrCrtcCtrl data lanes := by
  simpa [geometryWrites] using listed

/-- The flip bits change only under a `WR_CRTC_CTRL`, all eight to bit 0 of the new `CRTC_CTRL` (R32, R131). -/
theorem Effect.flips (effect : Effect i f) (s : State) :
    ((f s).flipX = s.flipX ∧ (f s).flipY = s.flipY) ∨
      ((∃ data lanes, i = .wrCrtcCtrl data lanes) ∧
        (f s).flipX = .all ((f s).crtc.ctrl.getLsbD 0) ∧ (f s).flipY = .all ((f s).crtc.ctrl.getLsbD 0)) := by
  cases effect with
  | storage => exact .inl ⟨by rw [memWrite_frame], by rw [memWrite_frame]⟩
  | layerReg | rozctrl | rozctrlSpare | reserved | vblank | render => exact .inl ⟨rfl, rfl⟩
  | @geometry data lanes i k listed =>
    obtain kept | ⟨rfl, all_ctrl⟩ := crtcWrite_flips cfg k data lanes s
    · exact .inl kept
    · exact .inr ⟨⟨data, lanes, eq_wrCrtcCtrl_of_geometryWrites listed⟩, all_ctrl⟩
  | @porch data lanes i k n listed =>
    obtain kept | ⟨rfl, -⟩ := crtcWrite_flips cfg k data lanes s
    · exact .inl kept
    · exact absurd (mem_porch_of_porchWrites listed) (by decide)
  | brightness => exact .inl ⟨by rw [brightWrite_frame], by rw [brightWrite_frame]⟩
  | unknown => exact .inl ⟨by rw [unknownReg_frame], by rw [unknownReg_frame]⟩

/-- The geometry and the refresh rate change only under the five geometry writes (R33, R200). -/
theorem Effect.geometry_owned (effect : Effect i f) (s : State) :
    ((f s).geom = s.geom ∧ (f s).refresh = s.refresh) ∨
      ∃ data lanes, ∃ p ∈ geometryWrites data lanes, p.1 = i := by
  cases effect with
  | storage => exact .inl ⟨by rw [memWrite_frame], by rw [memWrite_frame]⟩
  | layerReg | rozctrl | rozctrlSpare | reserved | vblank | render => exact .inl ⟨rfl, rfl⟩
  | @geometry data lanes i k listed => exact .inr ⟨data, lanes, _, listed, rfl⟩
  | porch listed => exact .inl (crtcWrite_porch_geometry cfg (mem_porch_of_porchWrites listed) _ _ s)
  | brightness => exact .inl ⟨by rw [brightWrite_frame], by rw [brightWrite_frame]⟩
  | unknown => exact .inl ⟨by rw [unknownReg_frame], by rw [unknownReg_frame]⟩

/-- Settles O59: `Effect.flips`, bit by bit, and `Effect.geometry_owned`. -/
theorem onlyCrtcChangesFlipAndGeometry : Obligations.OnlyCrtcChangesFlipAndGeometry := by
  intro i s t h
  obtain ⟨f, effect, rfl⟩ := effect_of_exec h
  refine ⟨(effect.flips s).imp id ?_, effect.geometry_owned s⟩
  rintro ⟨ctrl, flipX, flipY⟩
  exact ⟨ctrl, fun L => ⟨by rw [flipX, layerBits_all_get], by rw [flipY, layerBits_all_get]⟩⟩

end Sys2Proof.Proofs
end

section
/-!
The start of a run (R38, R192, R193).
-/
namespace Sys2Proof.Proofs

open Sys2Proof.Config Sys2Proof.Machine Sys2Proof.Safety Sys2Proof.Laws

/-! ## The invariant -/

/-- A buffer that lists nothing is in canonical form, within any bound. -/
theorem cellsOk_nil {α : Type} [DecidableEq α] (d : Nat → α) (bound : Nat) : CellsOk d bound [] :=
  ⟨rfl, by simp⟩

variable (c : Cfg)

/-- No space lists a cell at the start of a run. -/
theorem resetOf_mem_get (sp : Space) : (State.resetOf c).mem.get sp = [] := by
  cases sp <;> rfl

/-- What holds of a draw and of the value under `ZERO` holds at the start of a run (R38). -/
theorem profiled_induct {α : Type} {P : α → Prop} {draw zero : α} (of_draw : P draw) (of_zero : P zero) :
    P (profiled c draw zero) := by
  unfold profiled
  split <;> assumption

/-- The scales at the start of a run are in 0..256 under both profiles (R38). -/
theorem resetOf_scalesOk : ScalesOk (State.resetOf c).scales :=
  profiled_induct (P := ScalesOk) c
    ⟨Nat.lt_succ_iff.1 c.draws.scaleR.isLt, Nat.lt_succ_iff.1 c.draws.scaleG.isLt, Nat.lt_succ_iff.1 c.draws.scaleB.isLt⟩
    ⟨Nat.le_refl 256, Nat.le_refl 256, Nat.le_refl 256⟩

/-- A priority value that nothing has written has `SPR_PRI_BITS` bits (R34). -/
theorem sprPri0_lt (a : Nat) : sprPri0 c a < 2 ^ c.sprPriBits :=
  profiled_induct (P := (· < 2 ^ c.sprPriBits)) c (Nat.mod_lt _ (Nat.two_pow_pos _)) (Nat.two_pow_pos _)

/-- The invariant at the start of a run, under any legal configuration. -/
theorem resetOf_inv {c : Cfg} (legal : c.Legal) : Inv c (State.resetOf c) where
  mem sp := by
    rw [resetOf_mem_get]
    exact cellsOk_nil _ _
  bgalt _ := rfl
  tileColor := cellsOk_nil _ _
  tileTag := cellsOk_nil _ _
  sprColor := cellsOk_nil _ _
  sprPri := cellsOk_nil _ _
  out := cellsOk_nil _ _
  sprPri_range := sprPri0_lt c
  scales := resetOf_scalesOk c
  latchRam := cellsOk_nil _ _
  latchScales := resetOf_scalesOk c
  geom := legal.default_pos
  counted := Nat.le_refl 0

/-- Settles O54. -/
theorem resetHasInvariant : Obligations.ResetHasInvariant := resetOf_inv cfg_legal

/-! ## The values -/

/-- `REFRESH` at the start of a run, as a quotient (R38, R130). -/
theorem resetOf_refresh : (State.resetOf c).refresh =
    c.pixclk0 / ((c.defaultGeometry.hTotal : Rat) * (c.defaultGeometry.vTotal : Rat)) := by
  have quotient := refreshOf_eq c.pixclk0 c.defaultGeometry
  rwa [Nat.cast_mul] at quotient

/-- A black palette table converts to black, whatever the scales (R155). -/
theorem convert_black {p : PalLatch} (black : ∀ i, palWord c p i = 0) (i : Nat) : convert c p i = ⟨0, 0, 0⟩ := by
  have raw : rawRgb c p i = ⟨0, 0, 0⟩ := by
    simp only [rawRgb, black]
    rfl
  have scaled : ∀ scale, scaleChannel 0 scale = 0 := fun scale => by simp [scaleChannel]
  simp only [convert, raw, scaled, ite_self]

variable {c} (zero : c.resetProfile = .zero)

include zero

/-- Under `ZERO` an element holds the value of R38's second column. -/
theorem profiled_zero {α : Type} (draw value : α) : profiled c draw value = value := by
  simp only [profiled, zero]

/-- Under `ZERO` an unlisted byte of a space is 0, so a space that lists nothing reads 0 (R38). -/
theorem readWord_nil_zero (sp : Space) (i : Nat) : readWord (resetByte c sp) [] i = 0 := by
  simp only [readWord, cellRead, resetByte, profiled_zero zero]
  rfl

/-- Under `ZERO` every word of every space is 0 (R38). -/
theorem resetOf_wordAt_zero (sp : Space) (i : Nat) : wordAt c (State.resetOf c).mem sp i = 0 := by
  rw [wordAt, resetOf_mem_get, readWord_nil_zero zero]

/-- Under `ZERO` every register is 0 (R38). -/
theorem resetOf_registers_zero : let s := State.resetOf c
    (∀ k : Fin 32, s.rozctrl[k] = 0) ∧ (∀ k, s.layer.get k = 0) ∧ (∀ k, s.crtc.get k = 0) ∧
      ∀ b r, s.brt.get b r = 0 := by
  simp only [State.resetOf, profiled_zero zero]
  refine ⟨fun k => by simp, fun k => ?_, fun k => ?_, fun b r => ?_⟩
  · cases k <;> rfl
  · cases k <;> rfl
  · cases b <;> cases r <;> rfl

/-- Under `ZERO` every flip bit is 0 (R38). -/
theorem resetOf_flips_zero (L : Layer) :
    (State.resetOf c).flipX.get L = false ∧ (State.resetOf c).flipY.get L = false := by
  simp only [State.resetOf, profiled_zero zero]
  cases L <;> exact ⟨rfl, rfl⟩

/-- Under `ZERO` every pixel of the scratch buffers is 0 (R38). -/
theorem resetOf_scratch_zero (x y : Nat) : let sc := (State.resetOf c).scratch
    tileColorAt c sc x y = 0 ∧ tileTagAt c sc x y = 0 ∧ sprColorAt c sc x y = 0 ∧ sprPriAt c sc x y = 0 :=
  ⟨profiled_zero zero _ _, profiled_zero zero _ _, profiled_zero zero _ _, profiled_zero zero _ _⟩

/-- Under `ZERO` every entry of `PAL_RGB` is black (R38). -/
theorem resetOf_palRgb_zero (idx : Half) : palRgb c (State.resetOf c).palLatch idx = ⟨0, 0, 0⟩ := by
  refine convert_black c (fun i => ?_) _
  simp only [palWord, State.resetOf, readWord_nil_zero zero]
  rfl

omit zero

/-- Settles O60: the values of both profiles are fields of `State.resetOf`, those of `ZERO` hold group by group. -/
theorem resetValues : Obligations.ResetValues := by
  refine ⟨⟨rfl, rfl, rfl, resetOf_refresh cfg⟩, fun c zero => ?_⟩
  obtain ⟨rozctrl, layer, crtc, brt⟩ := resetOf_registers_zero zero
  exact ⟨resetOf_wordAt_zero zero, rozctrl, layer, crtc, brt, profiled_zero zero _ _, resetOf_flips_zero zero,
    resetOf_scratch_zero zero, resetOf_palRgb_zero zero⟩

end Sys2Proof.Proofs
end

section
/-!
The spaces: their sizes, a read, and what a storage write leaves at every word and every byte (R39, R40, R41, R43).
-/
namespace Sys2Proof.Proofs

open Sys2Proof.Config Sys2Proof.Machine Sys2Proof.Safety Sys2Proof.Laws

/-! ## Sizes and reads -/

/-- A table has two words for each cell of its grid (R39, R68). -/
theorem tableSize_eq (c : Cfg) (L : Layer) : 2 * (c.cols L * c.rows L) = 2 * c.cols L * c.rows L :=
  (Nat.mul_assoc 2 _ _).symm

/-- The palette has two words for each of its `0x8000` entries (R25). -/
theorem spaceSize_palram {c : Cfg} (legal : c.Legal) : spaceSize c .palram = 0x10000 := by
  rw [spaceSize, legal.palEntries_eq]

/-- Settles O7. -/
theorem spaceSizes : Obligations.SpaceSizes :=
  ⟨tableSize_eq cfg .tx, tableSize_eq cfg .bg, tableSize_eq cfg .bgalt, tableSize_eq cfg .roz, rfl, rfl, rfl,
    spaceSize_palram cfg_legal, rfl⟩

/-- Settles O10: the size of a space is positive under a legal configuration (R170). -/
theorem readsStayInSpace : Obligations.ReadsStayInSpace := by
  intro c legal m sp i
  refine ⟨rfl, Nat.mod_lt i (spaceSize_pos legal sp), fun in_range => ?_⟩
  rw [memRead, Nat.mod_eq_of_lt in_range]

/-! ## The storage write -/

section
variable (c : Cfg) (comp : BitVec 4) (off : Offset) (data : Word) (lanes : Lanes) (s : State)

/-- In range and with a lane, a storage write changes the memory only, and there the addressed word only (R43). -/
theorem memWrite_in_range {sp : Space} (some_lane : lanes ≠ 0) (in_range : off.toNat < spaceSize c sp) :
    let t := memWrite c sp comp off data lanes s
    t = { s with mem := t.mem } ∧
      ∀ sp' i, wordAt c t.mem sp' i =
        if sp' = sp ∧ i = off.toNat then mergeLanes (wordAt c s.mem sp' i) data lanes else wordAt c s.mem sp' i := by
  obtain ⟨no_lane, -⟩ | ⟨-, beyond, -⟩ | ⟨-, -, v, stored, e⟩ := memWrite_cases c sp comp off data lanes s
  · exact absurd no_lane some_lane
  · exact absurd in_range (Nat.not_lt.2 beyond)
  · rw [e]
    refine ⟨rfl, fun sp' i => ?_⟩
    by_cases same : sp' = sp
    · subst same
      rw [wordAt, setMem_mem, storage_get_set_same, stored.word]
      by_cases addressed : i = off.toNat
      · simp only [addressed, and_self, if_true]
      · simp only [addressed, and_false, if_false]
    · simp only [setMem_wordAt_other c s v i same, same, false_and, if_false]

/-- Every byte of memory after a storage write: the enabled lanes of the addressed word take those of `DATA` (R41, R43). -/
theorem memWrite_byteAt (sp sp' : Space) (a : Nat) :
    byteAt c (memWrite c sp comp off data lanes s).mem sp' a =
      if sp' = sp ∧ off.toNat < spaceSize c sp' ∧ a / 4 = off.toNat ∧ lanes.getLsbD (a % 4) = true then
        data.extractLsb' (8 * (a % 4)) 8
      else byteAt c s.mem sp' a := by
  by_cases same : sp' = sp
  · subst same
    obtain ⟨rfl, e⟩ | ⟨-, beyond, e⟩ | ⟨-, in_range, v, stored, e⟩ := memWrite_cases c sp' comp off data lanes s <;> rw [e]
    · simp
    · simp [Nat.not_lt.2 beyond]
    · rw [byteAt, setMem_mem, storage_get_set_same, stored.byte]
      simp only [in_range, true_and]
  · rw [byteAt, memWrite_get_other c same]
    simp only [same, false_and, if_false, byteAt]

end

/-! ## The eight operations -/

/-- Each listed storage write is the storage write of its space and component (R39, R60). -/
theorem exec_storageWrites {off : Offset} {data : Word} {lanes : Lanes} {p : Instr × Space × BitVec 4}
    (listed : p ∈ storageWrites off data lanes) (s : State) :
    exec p.1 s = .next (memWrite cfg p.2.1 p.2.2 off data lanes s) := by
  have bgaltram : exec (.wrBgaltram off data lanes) s =
      .next (memWrite cfg (if cfg.bgaltTableMode = .shared then .bgram else .bgaltram) 2 off data lanes s) := by
    rw [← tableSpace_bgalt]; rfl
  revert p
  simp only [storageWrites, List.forall_mem_cons]
  exact ⟨rfl, rfl, bgaltram, rfl, rfl, rfl, rfl, rfl, List.forall_mem_nil _⟩

/-- Settles O8: the three cases of `MemWrite` (R43). -/
theorem storageWriteMergesLanes : Obligations.StorageWriteMergesLanes := by
  intro off data lanes s p listed
  refine ⟨_, exec_storageWrites listed s, ?_⟩
  split
  next no_lane => exact if_pos no_lane
  next some_lane =>
    split
    next beyond =>
      refine ⟨p.2.2, .inr rfl, ?_⟩
      rw [memWrite, if_neg some_lane, if_pos beyond]
      rfl
    next in_range => exact memWrite_in_range cfg p.2.2 off data lanes s some_lane (Nat.lt_of_not_le in_range)

/-- Settles O9. -/
theorem storageWriteIsBytewise : Obligations.StorageWriteIsBytewise := fun off data lanes s p listed =>
  ⟨_, exec_storageWrites listed s, memWrite_byteAt cfg p.2.2 off data lanes s p.2.1⟩

end Sys2Proof.Proofs
end

section
/-!
The registers written by lanes: the layer control registers and `ROZCTRL` (R44, R74, R81, R96, R114).
-/
namespace Sys2Proof.Proofs

open Sys2Proof.Config Sys2Proof.Machine Sys2Proof.Safety Sys2Proof.Laws

variable {data : Word} {lanes : Lanes}

/-- Each listed layer register write is the write of its register (R28, R60). -/
theorem exec_layerWrites {p : Instr × LayerReg} (listed : p ∈ layerWrites data lanes) (s : State) :
    exec p.1 s = .next (layerWrite p.2 data lanes s) := by
  revert p
  simp only [layerWrites, List.forall_mem_cons]
  exact ⟨rfl, rfl, rfl, rfl, rfl, rfl, rfl, List.forall_mem_nil _⟩

/-- Each listed `ROZCTRL` write is the write of its word (R27, R60). -/
theorem exec_rozctrlWrites {p : Instr × Fin 32} (listed : p ∈ rozctrlWrites data lanes) (s : State) :
    exec p.1 s = .next (rozWrite p.2 data lanes s) := by
  revert p
  simp only [rozctrlWrites, List.forall_mem_cons]
  exact ⟨rfl, rfl, rfl, rfl, rfl, rfl, rfl, rfl, rfl, rfl, rfl, rfl, rfl, rfl, rfl, rfl, rfl, List.forall_mem_nil _⟩

/-- The word that a spare write names (R114): `16 + k` is an offset of the file. -/
theorem eq_spareWord_iff (j : Fin 32) (k : BitVec 4) : j = Fin.ofNat 32 (16 + k.toNat) ↔ j.val = 16 + k.toNat := by
  have in_file : 16 + k.toNat < 32 := Nat.add_lt_add_left k.isLt 16
  rw [Fin.ext_iff, Fin.val_ofNat, Nat.mod_eq_of_lt in_file]

/-- `rozWrite_rozctrl` with the value read at the word asked for. -/
theorem rozWrite_merges (k j : Fin 32) (data : Word) (lanes : Lanes) (s : State) :
    (rozWrite k data lanes s).rozctrl[j] = if j = k then mergeLanes s.rozctrl[j] data lanes else s.rozctrl[j] := by
  rw [rozWrite_rozctrl]
  split
  next addressed => rw [addressed]
  next => rfl

/-- Settles O11. -/
theorem layerRegisterWrites : Obligations.LayerRegisterWrites := by
  intro data lanes s p listed
  refine ⟨_, exec_layerWrites listed s, rfl, fun k => ?_⟩
  rw [layerWrite_layer]
  split
  next addressed => rw [addressed]; rfl
  next => rfl

/-- Settles O12: the named writes by their list, the spare row by `eq_spareWord_iff`. -/
protected theorem rozctrlWrites : Obligations.RozctrlWrites := by
  refine fun data lanes s => ⟨fun p listed => ?_, fun k => ?_⟩
  · exact ⟨_, exec_rozctrlWrites listed s, rfl, fun j => rozWrite_merges p.2 j data lanes s⟩
  · refine ⟨_, rfl, rfl, fun j => ?_⟩
    simp only [← eq_spareWord_iff]
    exact rozWrite_merges _ j data lanes s

end Sys2Proof.Proofs
end

section
/-!
The stream of operations: no operation reads or changes the words behind it (R49, R204; log 1).
-/
namespace Sys2Proof.Proofs

open Sys2Proof.Config Sys2Proof.Machine Sys2Proof.Safety Sys2Proof.Laws

/-- A change of state that has nothing to do with the delivered words: exchanging them before or after it is the same. -/
def IgnoresStream (f : State → State) : Prop := ∀ (s : State) (ws : List OpWord), f (s.setStream ws) = (f s).setStream ws

/-- What ignores the delivered words also keeps them. -/
theorem IgnoresStream.stream {f : State → State} (ignores : IgnoresStream f) (s : State) : (f s).stream = s.stream := by
  have same : f s = (f s).setStream s.stream := ignores s s.stream
  rw [same, setStream_stream]

section
variable (c : Cfg)

theorem memWrite_ignoresStream (sp : Space) (comp : BitVec 4) (off : Offset) (data : Word) (lanes : Lanes) :
    IgnoresStream (memWrite c sp comp off data lanes) := by
  intro s ws
  unfold memWrite
  split
  · rfl
  · split <;> rfl

theorem unknownReg_ignoresStream (comp : BitVec 4) (off : Offset) (data : Word) (lanes : Lanes) :
    IgnoresStream (unknownReg comp off data lanes) := by
  intro s ws
  unfold unknownReg
  split <;> rfl

theorem recompute_ignoresStream : IgnoresStream (recompute c) := by
  intro s ws
  rw [recompute_eq, recompute_eq]
  rfl

theorem crtcEffect_ignoresStream (k : CrtcReg) : IgnoresStream (crtcEffect c k) := by
  intro s ws
  cases k with
  | ctrl => exact recompute_ignoresStream c (propagateFlip s) ws
  | hblank | hdisp | vblank | vdisp => exact recompute_ignoresStream c s ws
  | porchBack | porchFront => rfl

theorem crtcWrite_ignoresStream (k : CrtcReg) (data : Word) (lanes : Lanes) :
    IgnoresStream (crtcWrite c k data lanes) := by
  intro s ws
  unfold crtcWrite
  dsimp only
  split
  · rfl
  · exact crtcEffect_ignoresStream c k (s.setCrtc k _) ws

theorem brightWrite_ignoresStream (b : Bank) (r : BrtReg) (data : Word) (lanes : Lanes) :
    IgnoresStream (brightWrite c b r data lanes) := by
  intro s ws
  unfold brightWrite
  dsimp only
  split
  · rfl
  · rw [apply_ite (State.setStream · ws)]
    rfl

theorem renderClip_ignoresStream (k : Clip) : IgnoresStream (renderClip c k) := fun _ _ => rfl

end

theorem Effect.ignoresStream {i : Instr} {f : State → State} (effect : Effect i f) : IgnoresStream f := by
  cases effect with
  | storage => exact memWrite_ignoresStream cfg _ _ _ _ _
  | layerReg | rozctrl | rozctrlSpare | reserved | vblank => exact fun _ _ => rfl
  | geometry | porch => exact crtcWrite_ignoresStream cfg _ _ _
  | brightness => exact brightWrite_ignoresStream cfg _ _ _ _
  | unknown => exact unknownReg_ignoresStream _ _ _ _
  | render => exact renderClip_ignoresStream cfg _

/-- Settles O52: the operation of the first word runs on the words behind it as it runs on none. -/
theorem wordsTakeEffectInOrder : Obligations.WordsTakeEffectInOrder := by
  refine ⟨fun i s q => ?_, fun s w ws none_delivered => ?_⟩
  · obtain ⟨f, effect, completes⟩ := exists_effect i
    refine ⟨f s, completes s, effect.ignoresStream.stream s, ?_⟩
    exact (completes _).trans (congrArg _ (effect.ignoresStream s q))
  · obtain ⟨f, effect, completes⟩ := exists_effect (decode w)
    have ignores := effect.ignoresStream
    have keeps_none : (f s).setStream [] = f s := by
      rw [← ignores, ← none_delivered]
      rfl
    refine ⟨f s, completes s, ?_⟩
    calc runWords s (w :: ws)
        = runWords ((f (s.setStream ws)).setStream []) ws :=
          runWords_cons none_delivered (completes _) (ignores.stream (s.setStream ws))
      _ = runWords ((f s).setStream []) ws := by rw [ignores]; rfl
      _ = runWords (f s) ws := by rw [keeps_none]

end Sys2Proof.Proofs
end

section
/-!
The invariant is kept by every step (R39, R40, R43, R127, R31, R33, R169; log 8): first by a write to a buffer, then by each state
update, by each shared operation, and by the phases of a frame.
-/
namespace Sys2Proof.Proofs

open Sys2Proof.Config Sys2Proof.Machine Sys2Proof.Safety Sys2Proof.Laws

/-! ## Buffers -/

/-- A write inside the bound keeps the canonical form and the bound. -/
theorem cellsOk_cellWrite {α : Type} [DecidableEq α] {d : Nat → α} {bound : Nat} {m : List (Nat × α)}
    (ok : CellsOk d bound m) {a : Nat} (inside : a < bound) (v : α) : CellsOk d bound (cellWrite d m a v) where
  wf := cellsWf_cellWrite d a v ok.wf
  below e he := by
    obtain rfl | old := mem_cellWrite d he
    · exact inside
    · exact ok.below e old

/-- A word write inside the space keeps the canonical form and the bound (R43). -/
theorem cellsOk_writeWord {d : Nat → Byte} {n : Nat} {m : Memory} (ok : CellsOk d (4 * n) m) {i : Nat} (inside : i < n)
    (v : Word) : CellsOk d (4 * n) (writeWord d m i v) :=
  ⟨wf_writeWord i v ok.wf, below_writeWord v inside ok.below⟩

variable {c : Cfg} {s : State}

/-- The new contents of a written space are as canonical, and as bounded, as the old (R43). -/
theorem cellsOk_of_stored {sp : Space} {off : Offset} {data : Word} {lanes : Lanes} {v : Memory}
    (stored : Stored c sp off data lanes s v) (ok : CellsOk (resetByte c sp) (4 * spaceSize c sp) (s.mem.get sp)) :
    CellsOk (resetByte c sp) (4 * spaceSize c sp) v :=
  ⟨stored.wf ok.wf, stored.below ok.below⟩

/-- The copied display buffer lists nothing past its last word (R118). -/
theorem cellsOk_copySprites {m : Storage} (ok : CellsOk (resetByte c .sprDisp) (4 * spaceSize c .sprDisp) m.sprDisp) :
    CellsOk (resetByte c .sprDisp) (4 * spaceSize c .sprDisp) (copySprites c m) :=
  foldl_induct _ (CellsOk (resetByte c .sprDisp) (4 * spaceSize c .sprDisp)) _ _ ok
    fun _ _ hi ok => cellsOk_writeWord ok (List.mem_range.1 hi) _

/-! ## State updates -/

/-- The stream is no part of the invariant. -/
theorem inv_setStream (inv : Inv c s) (ws : List OpWord) : Inv c (s.setStream ws) := { inv with }

/-- A space that exists (R22) may take any contents of its form. -/
theorem inv_setMem (inv : Inv c s) {sp : Space} {v : Memory}
    (ok : CellsOk (resetByte c sp) (4 * spaceSize c sp) v) (apart : c.bgaltTableMode = .shared → sp ≠ .bgaltram) :
    Inv c (s.setMem sp v) :=
  { inv with
    mem := fun sp' => by
      by_cases same : sp' = sp
      · subst same; rwa [setMem_mem, storage_get_set_same]
      · rw [setMem_mem, storage_get_set_other _ _ same]; exact inv.mem sp'
    bgalt := fun shared =>
      (storage_get_set_other s.mem v (apart shared).symm).trans (inv.bgalt shared) }

/-- Any record but an unhandled mask may be logged without being counted (R36). -/
theorem inv_appendDiag (inv : Inv c s) {d : Diag} (code : d.code ≠ 6) : Inv c (s.appendDiag d) :=
  { inv with
    counted := by
      have uncounted : [d].countP (fun d => d.code == 6) = 0 := by simp [code]
      rw [appendDiag_diagLog, List.countP_append, uncounted]
      exact inv.counted }

theorem inv_setScales (inv : Inv c s) {v : Scales} (ok : ScalesOk v) : Inv c (s.setScales v) :=
  { inv with scales := ok }

theorem inv_setGeometry (inv : Inv c s) {g : Geometry} (pos : 1 ≤ g.visW ∧ 1 ≤ g.visH ∧ 1 ≤ g.hTotal ∧ 1 ≤ g.vTotal)
    (r : Rat) : Inv c (s.setGeometry g r) :=
  { inv with geom := pos }

/-! ## Shared operations -/

theorem inv_memWrite (inv : Inv c s) {sp : Space} (apart : c.bgaltTableMode = .shared → sp ≠ .bgaltram)
    (comp : BitVec 4) (off : Offset) (data : Word) (lanes : Lanes) : Inv c (memWrite c sp comp off data lanes s) := by
  obtain ⟨-, e⟩ | ⟨-, -, e⟩ | ⟨-, -, v, stored, e⟩ := memWrite_cases c sp comp off data lanes s <;> rw [e]
  · exact inv
  · exact inv_appendDiag inv (by simp [Diag.code])
  · exact inv_setMem inv (cellsOk_of_stored stored (inv.mem sp)) apart

theorem inv_unknownReg (inv : Inv c s) (comp : BitVec 4) (off : Offset) (data : Word) (lanes : Lanes) :
    Inv c (unknownReg comp off data lanes s) := by
  obtain ⟨-, e⟩ | ⟨-, e⟩ := unknownReg_cases comp off data lanes s <;> rw [e]
  · exact inv
  · exact inv_appendDiag inv (by simp [Diag.code])

/-- The geometry of any registers is positive (R129, R169). -/
theorem crtcGeometry_pos (r : CrtcRegs) :
    1 ≤ (crtcGeometry r).visW ∧ 1 ≤ (crtcGeometry r).visH ∧ 1 ≤ (crtcGeometry r).hTotal ∧ 1 ≤ (crtcGeometry r).vTotal := by
  obtain ⟨visW, hTotal, -, visH, vTotal, -⟩ := crtcGeometry_bounds r
  exact ⟨visW, visH, visW.trans hTotal, visH.trans vTotal⟩

theorem inv_recompute (inv : Inv c s) : Inv c (recompute c s) := by
  have computed : ∀ r, Inv c (s.setGeometry (crtcGeometry s.crtc) r) := inv_setGeometry inv (crtcGeometry_pos s.crtc)
  unfold recompute
  split
  · exact inv_appendDiag (computed _) (by simp [Diag.code])
  · exact computed _

theorem inv_crtcWrite (inv : Inv c s) (k : CrtcReg) (data : Word) (lanes : Lanes) :
    Inv c (crtcWrite c k data lanes s) := by
  have written : ∀ v, Inv c (s.setCrtc k v) := fun _ => { inv with }
  have flipped : ∀ v, Inv c (propagateFlip (s.setCrtc k v)) := fun _ => { inv with }
  obtain ⟨-, e⟩ | ⟨-, e⟩ | ⟨-, e⟩ | ⟨-, n, e⟩ := crtcWrite_cases c k data lanes s <;> rw [e]
  · exact inv
  · exact inv_recompute (flipped _)
  · exact inv_recompute (written _)
  · exact inv_appendDiag (written _) (by simp [Diag.code])

/-- The scales of a bank are in 0..256 (R31). -/
theorem scalesOf_ok (t : BrtRegs) (b : Bank) : ScalesOk (scalesOf t b) := by
  obtain ⟨-, red, -, green, -, blue⟩ := scalesOf_bounds t b
  exact ⟨red, green, blue⟩

theorem inv_brightWrite (inv : Inv c s) (b : Bank) (r : BrtReg) (data : Word) (lanes : Lanes) :
    Inv c (brightWrite c b r data lanes s) := by
  have written : ∀ v, Inv c (s.setBrt b r v) := fun _ => { inv with }
  obtain e | ⟨-, e⟩ | ⟨-, -, e⟩ := brightWrite_cases c b r data lanes s <;> rw [e]
  · exact inv
  · exact written _
  · exact inv_setScales (written _) (scalesOf_ok _ b)

theorem inv_latchSprites (inv : Inv c s) : Inv c (latchSprites c s) :=
  inv_setMem inv (cellsOk_copySprites (inv.mem .sprDisp)) (by simp)

/-! ## The scratch buffers of a frame -/

/-- What the invariant says of the scratch buffers (R34, R127). -/
structure ScratchOk (c : Cfg) (sc : Scratch) : Prop where
  tileColor : CellsOk (tileColor0 c) (c.outW * c.outH) sc.tileColor
  tileTag : CellsOk (tileTag0 c) (c.outW * c.outH) sc.tileTag
  sprColor : CellsOk (sprColor0 c) (c.outW * c.outH) sc.sprColor
  sprPri : CellsOk (sprPri0 c) (c.outW * c.outH) sc.sprPri
  sprPri_range : ∀ a, cellRead (sprPri0 c) sc.sprPri a < 2 ^ c.sprPriBits

theorem scratchOk_of_inv (inv : Inv c s) : ScratchOk c s.scratch := { inv with }

/-- A pixel of a clip inside the bitmap has its place in every buffer (R144). -/
theorem pixelKey_lt_of_holds {k : Clip} (inside : ClipIn c k) {x y : Nat} (held : k.Holds x y) :
    pixelKey c x y < c.outW * c.outH := by
  obtain ⟨maxx_lt, maxy_lt⟩ := inside
  obtain ⟨-, x_le, -, y_le⟩ := held
  exact pixelKey_lt (x_le.trans_lt maxx_lt) (y_le.trans_lt maxy_lt)

variable {k : Clip} {sc : Scratch}

theorem scratchOk_stampTile (ok : ScratchOk c sc) {x y : Nat} (inside : pixelKey c x y < c.outW * c.outH) (palidx : Half)
    (tag : BitVec 3) : ScratchOk c (stampTile c x y palidx tag sc) :=
  { ok with
    tileColor := cellsOk_cellWrite ok.tileColor inside palidx
    tileTag := cellsOk_cellWrite ok.tileTag inside tag }

theorem scratchOk_stampSprite (ok : ScratchOk c sc) {x y : Nat} (inside : pixelKey c x y < c.outW * c.outH)
    (palidx : Half) (pri : Nat) : ScratchOk c (stampSprite c x y palidx pri sc) :=
  { ok with
    sprColor := cellsOk_cellWrite ok.sprColor inside palidx
    sprPri := cellsOk_cellWrite ok.sprPri inside _
    sprPri_range := fun a => by
      simp only [stampSprite, cellRead_cellWrite]
      split
      · exact Nat.mod_lt _ (Nat.two_pow_pos _)
      · exact ok.sprPri_range a }

theorem scratchOk_clearScratch (inside : ClipIn c k) (ok : ScratchOk c sc) : ScratchOk c (clearScratch c k sc) :=
  foldl_induct _ (ScratchOk c) _ _ ok fun _ _ hq ok =>
    have held := pixelKey_lt_of_holds inside (mem_clipPixels.1 hq)
    scratchOk_stampSprite (scratchOk_stampTile ok held 0 0) held 0 0

theorem scratchOk_drawPlane (inside : ClipIn c k) (ok : ScratchOk c sc) (m : Storage) (L : Layer) (tag : BitVec 3)
    (coord : Nat → Nat → Nat × Nat) : ScratchOk c (drawPlane c m L tag coord k sc) := by
  refine foldl_induct _ (ScratchOk c) _ _ ok fun sc q hq ok => ?_
  unfold drawPixel
  dsimp only
  split
  · exact ok
  · exact scratchOk_stampTile ok (pixelKey_lt_of_holds inside (mem_clipPixels.1 hq)) _ tag

theorem scratchOk_drawLayers (inside : ClipIn c k) (ok : ScratchOk c sc) (s : State) :
    ScratchOk c (drawLayers c s k sc) := by
  refine foldl_induct _ (ScratchOk c) _ _ ok fun sc e _ ok => ?_
  unfold drawTarget
  split
  · exact scratchOk_drawPlane inside ok _ _ _ _
  · exact scratchOk_drawPlane inside ok _ _ _ _

/-- A sprite stamps pixels of the clip only: the first item of the blit's contract (R123). -/
theorem scratchOk_drawSprite (legal : c.Legal) (inside : ClipIn c k) (ok : ScratchOk c sc) (m : Storage) (e : Nat) :
    ScratchOk c (drawSprite c m k sc e) := by
  unfold drawSprite
  dsimp only
  split
  · exact ok
  · exact foldl_induct _ (ScratchOk c) _ _ ok fun _ p hp ok =>
      scratchOk_stampSprite ok (pixelKey_lt_of_holds inside (legal.blit.inside _ _ _ p hp)) _ _

/-- The scratch buffers when the pixel loop begins: cleared, then the sprites, then the layers (R144). -/
theorem scratchOk_renderScratch (legal : c.Legal) (inside : ClipIn c k) (ok : ScratchOk c s.scratch) :
    ScratchOk c (renderScratch c s k) := by
  have cleared : ScratchOk c (clearScratch c k s.scratch) := scratchOk_clearScratch inside ok
  have sprites : ScratchOk c (drawSprites c s.mem k (clearScratch c k s.scratch)) :=
    foldl_induct _ (ScratchOk c) _ _ cleared fun _ e _ ok => scratchOk_drawSprite legal inside ok s.mem e
  exact scratchOk_drawLayers inside sprites s

/-! ## The pixel loop of a frame -/

/-- What the invariant says of the bitmap, the log and the count (R37, R151). -/
structure MixOk (c : Cfg) (t : MixState) : Prop where
  out : CellsOk (out0 c) (c.outW * c.outH) t.out
  counted : t.log.countP (fun d => d.code == 6) ≤ t.count

/-- An unhandled pixel adds one to the count and at most one record to the log (R151, R180). -/
theorem mixOk_noteUnhandled {t : MixState} (ok : MixOk c t) (mask : BitVec 8) (tag : BitVec 3) (x y : Nat) :
    MixOk c (noteUnhandled mask tag x y t) := by
  unfold noteUnhandled
  split
  · exact { ok with counted := Nat.le_succ_of_le ok.counted }
  · have one : [Diag.unhandledMask mask tag x y].countP (fun d => d.code == 6) = 1 := rfl
    refine { ok with counted := ?_ }
    rw [List.countP_append, one]
    exact Nat.succ_le_succ ok.counted

theorem mixOk_mixPixel {t : MixState} (ok : MixOk c t) (m : Storage) (p : PalLatch) (sc : Scratch) {q : Nat × Nat}
    (inside : pixelKey c q.1 q.2 < c.outW * c.outH) : MixOk c (mixPixel c m p sc t q) := by
  have noted : MixOk c (if c.priLut (pixelCase c m sc q).1 (pixelCase c m sc q).2 = .unhandled then
      noteUnhandled (pixelCase c m sc q).1 (pixelCase c m sc q).2 q.1 q.2 t else t) := by
    split
    · exact mixOk_noteUnhandled ok _ _ _ _
    · exact ok
  exact { noted with out := cellsOk_cellWrite noted.out inside _ }

theorem mixOk_mixFrame (inside : ClipIn c k) (inv : Inv c s) (sc : Scratch) : MixOk c (mixFrame c s k sc) :=
  have start : MixOk c ⟨s.out, s.diagLog, s.unhandledCount, []⟩ := { inv with }
  foldl_induct _ (MixOk c) _ _ start fun _ _ hq ok =>
    mixOk_mixPixel ok s.mem (latchPalette s) sc (pixelKey_lt_of_holds inside (mem_clipPixels.1 hq))

/-- A frame keeps the invariant; its palette is latched from a palette table and scales that have it (R144; log 10). -/
theorem inv_renderClip (legal : c.Legal) (inside : ClipIn c k) (inv : Inv c s) : Inv c (renderClip c k s) :=
  have scratch : ScratchOk c (renderScratch c s k) := scratchOk_renderScratch legal inside (scratchOk_of_inv inv)
  have mixed : MixOk c (mixFrame c s k (renderScratch c s k)) := mixOk_mixFrame inside inv _
  { scratch, mixed, inv with
    latchRam := inv.mem .palram
    latchScales := inv.scales }

/-! ## Operations and steps -/

/-- Under `SHARED` no storage write reaches `BGALTRAM` (R22). -/
theorem ne_bgaltram_of_storageWrites {i : Instr} {sp : Space} {off : Offset} {data : Word} {lanes : Lanes}
    {comp : BitVec 4} (listed : (i, sp, comp) ∈ storageWrites off data lanes) (shared : cfg.bgaltTableMode = .shared) :
    sp ≠ .bgaltram := by
  rintro rfl
  obtain ⟨separate, -⟩ := eq_wrBgaltram_of_writes_bgaltram listed
  exact absurd (shared.symm.trans separate) (by decide)

/-- Every operation keeps the invariant, by its shape. -/
theorem Effect.inv {i : Instr} {f : State → State} (effect : Effect i f) (inv : Inv cfg s) : Inv cfg (f s) := by
  cases effect with
  | storage listed => exact inv_memWrite inv (ne_bgaltram_of_storageWrites listed) _ _ _ _
  | layerReg | rozctrl | rozctrlSpare => exact { inv with }
  | geometry | porch => exact inv_crtcWrite inv _ _ _
  | brightness => exact inv_brightWrite inv _ _ _ _
  | unknown => exact inv_unknownReg inv _ _ _ _
  | reserved => exact inv_appendDiag inv (by simp [Diag.code])
  | vblank => exact inv_latchSprites inv
  | render minx maxx miny maxy => exact inv_renderClip cfg_legal (clampClip_in cfg_legal minx maxx miny maxy) inv

/-- Settles O53: a step takes a word off the stream, which is no part of the invariant, and runs one operation. -/
theorem everyStepKeepsInvariant : Obligations.EveryStepKeepsInvariant := by
  intro s t inv h
  match delivered : s.stream with
  | [] =>
    rw [step_empty delivered] at h
    exact Host.Outcome.next.inj h ▸ inv
  | w :: ws =>
    rw [step_cons delivered] at h
    obtain ⟨f, effect, rfl⟩ := effect_of_exec h
    exact effect.inv (inv_setStream inv ws)

end Sys2Proof.Proofs
end

section
/-!
The operation encoding, read both ways (R55, R56, R60, R61): what the decoder makes of a word by its leading bits and its component,
then `decode` after `encode` and `encode` after `decode`.
-/
namespace Sys2Proof.Proofs

open Sys2Proof.Config Sys2Proof.Machine Sys2Proof.Safety Sys2Proof.Laws

/-! ## The classes of words (R55, R176)

`top1`, `top2` and `top6` are the first one, two and six bits of a word, which tell the reserved classes from the others. -/

/-- A word is its leading bits and the rest. -/
theorem append_rest_of_top {m n : Nat} {w : BitVec (m + n)} {lead : BitVec m} (top : w.extractLsb' n m = lead) :
    lead ++ w.extractLsb' 0 n = w :=
  top ▸ BitVec.extractLsb'_append_extractLsb'

section
variable {w : OpWord}

theorem top1_eq : w.extractLsb' 63 1 = (fieldOpc w).extractLsb' 3 1 := by
  ext b hb
  simp only [fieldOpc, BitVec.getElem_extractLsb', BitVec.getLsbD_extractLsb']
  grind

theorem top2_eq : w.extractLsb' 62 2 = (fieldOpc w).extractLsb' 2 2 := by
  ext b hb
  simp only [fieldOpc, BitVec.getElem_extractLsb', BitVec.getLsbD_extractLsb']
  grind

theorem top6_eq : w.extractLsb' 58 6 = fieldOpc w ++ (fieldComp w).extractLsb' 2 2 := by
  ext b hb
  simp only [fieldOpc, fieldComp, BitVec.getElem_extractLsb']
  grind

theorem decode_of_opc0 (opc : fieldOpc w = 0) : decode w = .reservedOpc0 (w.extractLsb' 0 60) := by
  simp [decode, opc]

theorem decode_of_write (opc : fieldOpc w = 1) : decode w = decodeWrite w := by
  simp [decode, opc]

theorem decode_of_vblank (opc : fieldOpc w = 2) : decode w = .vblank := by
  simp [decode, opc]

theorem decode_of_render (opc : fieldOpc w = 3) :
    decode w = .render (w.extractLsb' 36 12) (w.extractLsb' 24 12) (w.extractLsb' 12 12) (w.extractLsb' 0 12) := by
  simp [decode, opc]

theorem opc_of_top2 (top : w.extractLsb' 62 2 = 1) : 4 ≤ (fieldOpc w).toNat ∧ (fieldOpc w).extractLsb' 3 1 = 0 := by
  have of_top : ∀ opc : BitVec 4, opc.extractLsb' 2 2 = 1 → 4 ≤ opc.toNat ∧ opc.extractLsb' 3 1 = 0 := by decide
  exact of_top _ (top2_eq ▸ top)

theorem opc_of_top1 (top : w.extractLsb' 63 1 = 1) : 4 ≤ (fieldOpc w).toNat ∧ (fieldOpc w).extractLsb' 3 1 ≠ 0 := by
  have of_top : ∀ opc : BitVec 4, opc.extractLsb' 3 1 = 1 → 4 ≤ opc.toNat ∧ opc.extractLsb' 3 1 ≠ 0 := by decide
  exact of_top _ (top1_eq ▸ top)

theorem fields_of_top6 (top : w.extractLsb' 58 6 = 7) : fieldOpc w = 1 ∧ 12 ≤ (fieldComp w).toNat := by
  have of_top : ∀ opc comp : BitVec 4, opc ++ comp.extractLsb' 2 2 = 7 → opc = 1 ∧ 12 ≤ comp.toNat := by decide
  exact of_top _ _ (top6_eq ▸ top)

theorem decode_of_opc4to7 (top : w.extractLsb' 62 2 = 1) : decode w = .reservedOpc4to7 (w.extractLsb' 0 62) := by
  obtain ⟨reserved, below8⟩ := opc_of_top2 top
  unfold decode
  iterate 4
    refine (if_neg (by bv_omega)).trans ?_
  exact if_pos below8

theorem decode_of_opc8to15 (top : w.extractLsb' 63 1 = 1) : decode w = .reservedOpc8to15 (w.extractLsb' 0 63) := by
  obtain ⟨reserved, not_below8⟩ := opc_of_top1 top
  unfold decode
  iterate 4
    refine (if_neg (by bv_omega)).trans ?_
  exact if_neg not_below8

theorem decode_of_reservedComp (top : w.extractLsb' 58 6 = 7) : decode w = .reservedComp (w.extractLsb' 0 58) := by
  obtain ⟨opc, no_component⟩ := fields_of_top6 top
  rw [decode_of_write opc]
  simp (disch := bv_omega) only [decodeWrite, if_neg]

/-- The classes, each by the leading bits that tell it from the others. -/
theorem word_class (w : OpWord) :
    fieldOpc w = 0 ∨ fieldOpc w = 2 ∨ fieldOpc w = 3 ∨ w.extractLsb' 62 2 = 1 ∨ w.extractLsb' 63 1 = 1 ∨
      w.extractLsb' 58 6 = 7 ∨ (fieldOpc w = 1 ∧ (fieldComp w).toNat < 12) := by
  have class_of_fields : ∀ opc comp : BitVec 4, opc = 0 ∨ opc = 2 ∨ opc = 3 ∨ opc.extractLsb' 2 2 = 1 ∨
      opc.extractLsb' 3 1 = 1 ∨ opc ++ comp.extractLsb' 2 2 = 7 ∨ (opc = 1 ∧ comp.toNat < 12) := by decide
  rw [top1_eq, top2_eq, top6_eq]
  exact class_of_fields _ _

end

/-! ## The components of a `WRITE` (R57, R60) -/

section
variable (off : Offset) (data : Word) (lanes : Lanes)

theorem decode_packWrite_txram : decode (packWrite 0 lanes off data) = .wrTxram off data lanes := by
  simp [decode_of_write, decodeWrite]

theorem decode_packWrite_bgram : decode (packWrite 1 lanes off data) = .wrBgram off data lanes := by
  simp [decode_of_write, decodeWrite]

theorem decode_packWrite_bgaltram : decode (packWrite 2 lanes off data) = .wrBgaltram off data lanes := by
  simp [decode_of_write, decodeWrite]

theorem decode_packWrite_rozram : decode (packWrite 3 lanes off data) = .wrRozram off data lanes := by
  simp [decode_of_write, decodeWrite]

theorem decode_packWrite_lineram : decode (packWrite 4 lanes off data) = .wrLineram off data lanes := by
  simp [decode_of_write, decodeWrite]

theorem decode_packWrite_sprram : decode (packWrite 5 lanes off data) = .wrSprram off data lanes := by
  simp [decode_of_write, decodeWrite]

theorem decode_packWrite_palram : decode (packWrite 6 lanes off data) = .wrPalram off data lanes := by
  simp [decode_of_write, decodeWrite]

theorem decode_packWrite_priram : decode (packWrite 7 lanes off data) = .wrPriram off data lanes := by
  simp [decode_of_write, decodeWrite]

theorem decode_packWrite_rozctrl : decode (packWrite 8 lanes off data) = decodeRozctrl off data lanes := by
  simp [decode_of_write, decodeWrite]

theorem decode_packWrite_crtc : decode (packWrite 9 lanes off data) = decodeCrtc off data lanes := by
  simp [decode_of_write, decodeWrite]

theorem decode_packWrite_bright : decode (packWrite 10 lanes off data) = decodeBright off data lanes := by
  simp [decode_of_write, decodeWrite]

theorem decode_packWrite_layer : decode (packWrite 11 lanes off data) = decodeLayer off data lanes := by
  simp [decode_of_write, decodeWrite]

end

/-! ## The offsets that no named row takes (R61, R114, R177) -/

/-- The offsets of the spare row and `MODE`, `OFF[19:4] = 1`. -/
theorem offset_high_eq_one_iff (off : Offset) : off.extractLsb' 4 16 = 1 ↔ 16 ≤ off.toNat ∧ off.toNat < 32 := by
  have high : (off.extractLsb' 4 16).toNat = off.toNat / 16 := by
    rw [BitVec.extractLsb'_toNat, Nat.shiftRight_eq_div_pow]
    omega
  bv_omega

/-- `MODE`'s offset, 23, among them. -/
theorem spareOffset_eq_mode_iff (k : BitVec 4) : 1#16 ++ k = (23 : Offset) ↔ k = 7 :=
  BitVec.append_right_inj (1#16) (t₂ := 7#4)

section
variable {off : Offset} (data : Word) (lanes : Lanes)

theorem decodeRozctrl_spare (high : off.extractLsb' 4 16 = 1) (not_mode : off ≠ 23) :
    decodeRozctrl off data lanes = .wrRozctrlSpare (off.extractLsb' 0 4) data lanes := by
  have in_block := (offset_high_eq_one_iff off).mp high
  unfold decodeRozctrl
  iterate 17
    refine (if_neg (by bv_omega)).trans ?_
  exact if_pos high

theorem decodeRozctrl_unknown (unassigned : 32 ≤ off.toNat) :
    decodeRozctrl off data lanes = .wrRozctrlUnknown off data lanes := by
  have not_spare : ¬ off.extractLsb' 4 16 = 1 := by
    rw [offset_high_eq_one_iff]
    omega
  simp (disch := bv_omega) only [decodeRozctrl, if_neg]

theorem decodeCrtc_unknown (unassigned : 7 ≤ off.toNat) :
    decodeCrtc off data lanes = .wrCrtcUnknown off data lanes := by
  simp (disch := bv_omega) only [decodeCrtc, if_neg]

theorem decodeBright_unknown (unassigned : 4 ≤ off.toNat) :
    decodeBright off data lanes = .wrBrightUnknown off data lanes := by
  simp (disch := bv_omega) only [decodeBright, if_neg]

theorem decodeLayer_unknown (unassigned : 7 ≤ off.toNat) :
    decodeLayer off data lanes = .wrLayerUnknown off data lanes := by
  simp (disch := bv_omega) only [decodeLayer, if_neg]

end

/-! ## Decoding an encoded operation -/

section
variable (minx maxx miny maxy : BitVec 12)

theorem fieldOpc_render : fieldOpc (encode (.render minx maxx miny maxy)) = 3 := by
  show (3#4 ++ 0#12 ++ minx ++ maxx ++ miny ++ maxy).extractLsb' 60 4 = 3
  simp (disch := decide) only [BitVec.extractLsb'_append_eq_of_le, Nat.reduceSub]
  rfl

theorem operands_render : let w := encode (.render minx maxx miny maxy)
    w.extractLsb' 36 12 = minx ∧ w.extractLsb' 24 12 = maxx ∧ w.extractLsb' 12 12 = miny ∧ w.extractLsb' 0 12 = maxy := by
  simp (disch := decide) only [encode, BitVec.extractLsb'_append_eq_of_le, BitVec.extractLsb'_append_eq_right,
    Nat.reduceSub, and_self]

end

/-- Settles O1: the encoder writes the component and the offset that the decoder's branch for the operation asks for. The five rows
that leave offsets to other rows are read back because their operations are well formed. -/
theorem decodeEncodeAgree : Obligations.DecodeEncodeAgree := by
  intro i wf
  cases i with
  | wrTxram off data lanes => exact decode_packWrite_txram off data lanes
  | wrBgram off data lanes => exact decode_packWrite_bgram off data lanes
  | wrBgaltram off data lanes => exact decode_packWrite_bgaltram off data lanes
  | wrRozram off data lanes => exact decode_packWrite_rozram off data lanes
  | wrLineram off data lanes => exact decode_packWrite_lineram off data lanes
  | wrSprram off data lanes => exact decode_packWrite_sprram off data lanes
  | wrPalram off data lanes => exact decode_packWrite_palram off data lanes
  | wrPriram off data lanes => exact decode_packWrite_priram off data lanes
  | wrRozctrlStartxLo data lanes | wrRozctrlStartxHi data lanes | wrRozctrlStartyLo data lanes
  | wrRozctrlStartyHi data lanes | wrRozctrlIncxxLo data lanes | wrRozctrlIncxxHi data lanes
  | wrRozctrlIncxyLo data lanes | wrRozctrlIncxyHi data lanes | wrRozctrlIncyyLo data lanes
  | wrRozctrlIncyyHi data lanes | wrRozctrlIncyxLo data lanes | wrRozctrlIncyxHi data lanes
  | wrRozctrlOffx data lanes | wrRozctrlOffy data lanes | wrRozctrlOffselx data lanes
  | wrRozctrlOffsely data lanes | wrRozctrlMode data lanes =>
    exact decode_packWrite_rozctrl _ data lanes
  | wrRozctrlSpare k data lanes =>
    have not_mode : 1#16 ++ k ≠ 23 := mt (spareOffset_eq_mode_iff k).mp (of_decide_eq_true wf)
    calc decode (packWrite 8 lanes (1#16 ++ k) data)
        = decodeRozctrl (1#16 ++ k) data lanes := decode_packWrite_rozctrl _ data lanes
      _ = .wrRozctrlSpare ((1#16 ++ k).extractLsb' 0 4) data lanes :=
          decodeRozctrl_spare data lanes BitVec.extractLsb'_append_eq_left not_mode
      _ = .wrRozctrlSpare k data lanes := by rw [BitVec.extractLsb'_append_eq_right]
  | wrRozctrlUnknown off data lanes =>
    exact (decode_packWrite_rozctrl off data lanes).trans (decodeRozctrl_unknown data lanes (of_decide_eq_true wf))
  | wrCrtcCtrl data lanes | wrCrtcHblank data lanes | wrCrtcHdisp data lanes | wrCrtcVblank data lanes
  | wrCrtcVdisp data lanes | wrCrtcPorchBack data lanes | wrCrtcPorchFront data lanes =>
    exact decode_packWrite_crtc _ data lanes
  | wrCrtcUnknown off data lanes =>
    exact (decode_packWrite_crtc off data lanes).trans (decodeCrtc_unknown data lanes (of_decide_eq_true wf))
  | wrBrightB0r0 data lanes | wrBrightB0r1 data lanes | wrBrightB1r0 data lanes | wrBrightB1r1 data lanes =>
    exact decode_packWrite_bright _ data lanes
  | wrBrightUnknown off data lanes =>
    exact (decode_packWrite_bright off data lanes).trans (decodeBright_unknown data lanes (of_decide_eq_true wf))
  | wrLayerTxScrollx data lanes | wrLayerTxScrolly data lanes | wrLayerBgScrollx data lanes
  | wrLayerBgScrolly data lanes | wrLayerBgaltScrollx data lanes | wrLayerBgaltScrolly data lanes
  | wrLayerBgLayout data lanes =>
    exact decode_packWrite_layer _ data lanes
  | wrLayerUnknown off data lanes =>
    exact (decode_packWrite_layer off data lanes).trans (decodeLayer_unknown data lanes (of_decide_eq_true wf))
  | vblank => rfl
  | render minx maxx miny maxy =>
    obtain ⟨minx_eq, maxx_eq, miny_eq, maxy_eq⟩ := operands_render minx maxx miny maxy
    rw [decode_of_render (fieldOpc_render minx maxx miny maxy), minx_eq, maxx_eq, miny_eq, maxy_eq]
  | reservedOpc0 rest =>
    rw [encode, decode_of_opc0 (w := 0#4 ++ rest) BitVec.extractLsb'_append_eq_left, BitVec.extractLsb'_append_eq_right]
  | reservedOpc4to7 rest =>
    rw [encode, decode_of_opc4to7 (w := 1#2 ++ rest) BitVec.extractLsb'_append_eq_left,
      BitVec.extractLsb'_append_eq_right]
  | reservedOpc8to15 rest =>
    rw [encode, decode_of_opc8to15 (w := 1#1 ++ rest) BitVec.extractLsb'_append_eq_left,
      BitVec.extractLsb'_append_eq_right]
  | reservedComp rest =>
    rw [encode, decode_of_reservedComp (w := 7#6 ++ rest) BitVec.extractLsb'_append_eq_left,
      BitVec.extractLsb'_append_eq_right]

/-! ## Encoding a decoded word -/

/-- A well-formed operation and its word. -/
def IsWordOf (w : OpWord) (i : Instr) : Prop := i.wf = true ∧ encode i = w

/-- One named offset of a register component: the word of its operation carries it, and any other offset falls to the rows behind. -/
theorem IsWordOf.named {comp : BitVec 4} {lanes : Lanes} {off k : Offset} {data : Word} {named other : Instr}
    (of_named : IsWordOf (packWrite comp lanes k data) named)
    (of_other : off ≠ k → IsWordOf (packWrite comp lanes off data) other) :
    IsWordOf (packWrite comp lanes off data) (if off = k then named else other) := by
  split
  next addressed => exact addressed ▸ of_named
  next elsewhere => exact of_other elsewhere

section
variable (off : Offset) (data : Word) (lanes : Lanes)

theorem isWordOf_decodeCrtc : IsWordOf (packWrite 9 lanes off data) (decodeCrtc off data lanes) := by
  unfold decodeCrtc
  iterate 7
    refine .named ⟨rfl, rfl⟩ fun _ => ?_
  exact ⟨decide_eq_true (by bv_omega), rfl⟩

theorem isWordOf_decodeBright : IsWordOf (packWrite 10 lanes off data) (decodeBright off data lanes) := by
  unfold decodeBright
  iterate 4
    refine .named ⟨rfl, rfl⟩ fun _ => ?_
  exact ⟨decide_eq_true (by bv_omega), rfl⟩

theorem isWordOf_decodeLayer : IsWordOf (packWrite 11 lanes off data) (decodeLayer off data lanes) := by
  unfold decodeLayer
  iterate 7
    refine .named ⟨rfl, rfl⟩ fun _ => ?_
  exact ⟨decide_eq_true (by bv_omega), rfl⟩

/-- Behind the named offsets of `ROZCTRL` stands the spare row, whose word keeps `OFF[3:0]` only: `OFF[19:4]` is the row's own. -/
theorem isWordOf_decodeRozctrl : IsWordOf (packWrite 8 lanes off data) (decodeRozctrl off data lanes) := by
  unfold decodeRozctrl
  iterate 17
    refine .named ⟨rfl, rfl⟩ fun _ => ?_
  refine iteInduction (fun high => ?_) (fun not_spare => ?_)
  · have offset_eq : 1#16 ++ off.extractLsb' 0 4 = off := append_rest_of_top high
    have not_mode : off.extractLsb' 0 4 ≠ 7 := by
      rw [ne_eq, ← spareOffset_eq_mode_iff, offset_eq]
      assumption
    exact ⟨decide_eq_true not_mode, congrArg (packWrite 8 lanes · data) offset_eq⟩
  · have outside_block := mt (offset_high_eq_one_iff off).mpr not_spare
    exact ⟨decide_eq_true (by bv_omega), rfl⟩

/-- The twelve components. -/
theorem isWordOf_decode_packWrite {comp : BitVec 4} (component : comp.toNat < 12) :
    IsWordOf (packWrite comp lanes off data) (decode (packWrite comp lanes off data)) := by
  have components : ∀ comp : BitVec 4, comp.toNat < 12 → comp = 0 ∨ comp = 1 ∨ comp = 2 ∨ comp = 3 ∨ comp = 4 ∨
      comp = 5 ∨ comp = 6 ∨ comp = 7 ∨ comp = 8 ∨ comp = 9 ∨ comp = 10 ∨ comp = 11 := by decide
  obtain rfl | rfl | rfl | rfl | rfl | rfl | rfl | rfl | rfl | rfl | rfl | rfl := components comp component
  · rw [decode_packWrite_txram]; exact ⟨rfl, rfl⟩
  · rw [decode_packWrite_bgram]; exact ⟨rfl, rfl⟩
  · rw [decode_packWrite_bgaltram]; exact ⟨rfl, rfl⟩
  · rw [decode_packWrite_rozram]; exact ⟨rfl, rfl⟩
  · rw [decode_packWrite_lineram]; exact ⟨rfl, rfl⟩
  · rw [decode_packWrite_sprram]; exact ⟨rfl, rfl⟩
  · rw [decode_packWrite_palram]; exact ⟨rfl, rfl⟩
  · rw [decode_packWrite_priram]; exact ⟨rfl, rfl⟩
  · rw [decode_packWrite_rozctrl]; exact isWordOf_decodeRozctrl off data lanes
  · rw [decode_packWrite_crtc]; exact isWordOf_decodeCrtc off data lanes
  · rw [decode_packWrite_bright]; exact isWordOf_decodeBright off data lanes
  · rw [decode_packWrite_layer]; exact isWordOf_decodeLayer off data lanes

end

/-! ## The ignored bits (R55; log 13) -/

section
variable {w : OpWord}

theorem vblank_and_mask (opc : fieldOpc w = 2) : w &&& 0xF000000000000000 = encode .vblank := by
  have fields : 2#4 ++ w.extractLsb' 0 60 = w := append_rest_of_top opc
  rw [← fields]
  show (2#4 ++ w.extractLsb' 0 60) &&& (BitVec.allOnes 4 ++ 0#60) = _
  rw [append_and, BitVec.and_allOnes, BitVec.and_zero]
  rfl

theorem render_and_mask (opc : fieldOpc w = 3) : w &&& 0xF000FFFFFFFFFFFF = encode (decode w) := by
  have fields : 3#4 ++ w.extractLsb' 48 12 ++ w.extractLsb' 36 12 ++ w.extractLsb' 24 12 ++ w.extractLsb' 12 12 ++
      w.extractLsb' 0 12 = w := by
    rw [show 3#4 = w.extractLsb' 60 4 from opc.symm]
    iterate 5
      rw [BitVec.extractLsb'_append_extractLsb'_eq_extractLsb' (by rfl)]
    exact BitVec.extractLsb'_eq_self
  rw [decode_of_render opc]
  conv_lhs => rw [← fields]
  show (_ : BitVec (4 + 12 + 12 + 12 + 12 + 12)) &&& (BitVec.allOnes 4 ++ 0#12 ++ BitVec.allOnes 12 ++ BitVec.allOnes 12 ++
    BitVec.allOnes 12 ++ BitVec.allOnes 12) = _
  simp only [append_and, BitVec.and_allOnes, BitVec.and_zero]
  rfl

theorem clearIgnored_of_vblank (opc : fieldOpc w = 2) : clearIgnored w = encode (decode w) := by
  rw [clearIgnored, if_pos opc, decode_of_vblank opc]
  exact vblank_and_mask opc

theorem clearIgnored_of_render (opc : fieldOpc w = 3) : clearIgnored w = encode (decode w) := by
  have no_vblank : fieldOpc w ≠ 2 := by bv_omega
  rw [clearIgnored, if_neg no_vblank, if_pos opc]
  exact render_and_mask opc

theorem clearIgnored_eq_self (no_vblank : fieldOpc w ≠ 2) (no_render : fieldOpc w ≠ 3) : clearIgnored w = w := by
  rw [clearIgnored, if_neg no_vblank, if_neg no_render]

end

/-- Settles O2, class by class: a reserved word is its leading bits and its operand, a `WRITE` word is its fields. -/
theorem encodeDecodeAgree : Obligations.EncodeDecodeAgree := by
  intro w
  show IsWordOf (clearIgnored w) (decode w)
  obtain opc | opc | opc | top | top | top | ⟨opc, component⟩ := word_class w
  · rw [clearIgnored_eq_self (by bv_omega) (by bv_omega), decode_of_opc0 opc]
    exact ⟨rfl, append_rest_of_top opc⟩
  · rw [clearIgnored_of_vblank opc, decode_of_vblank opc]
    exact ⟨rfl, rfl⟩
  · rw [clearIgnored_of_render opc, decode_of_render opc]
    exact ⟨rfl, rfl⟩
  · obtain ⟨reserved, -⟩ := opc_of_top2 top
    rw [clearIgnored_eq_self (by bv_omega) (by bv_omega), decode_of_opc4to7 top]
    exact ⟨rfl, append_rest_of_top top⟩
  · obtain ⟨reserved, -⟩ := opc_of_top1 top
    rw [clearIgnored_eq_self (by bv_omega) (by bv_omega), decode_of_opc8to15 top]
    exact ⟨rfl, append_rest_of_top top⟩
  · obtain ⟨opc, -⟩ := fields_of_top6 top
    rw [clearIgnored_eq_self (by bv_omega) (by bv_omega), decode_of_reservedComp top]
    exact ⟨rfl, append_rest_of_top top⟩
  · rw [clearIgnored_eq_self (by bv_omega) (by bv_omega), ← packWrite_fields w opc]
    exact isWordOf_decode_packWrite _ _ _ component

/-! ## The step -/

/-- Settles O50: the word of a well-formed operation decodes to it by `decodeEncodeAgree`. -/
theorem stepRunsDecodedOperation : Obligations.StepRunsDecodedOperation := by
  refine ⟨fun s i ws wf delivered => ?_, fun _ _ _ => step_cons, fun _ => step_empty⟩
  rw [step_cons delivered, decodeEncodeAgree i wf]
  rfl

end Sys2Proof.Proofs
end

section
/-!
The selection rule over the table of operations (R60, R61): where two rows share a word one of them is heavier and names an offset or
the spare block, and the decoder takes a row that names the offset of its word.
-/
namespace Sys2Proof.Proofs

open Sys2Proof.Config Sys2Proof.Machine Sys2Proof.Safety Sys2Proof.Laws

/-! ## The row of a decoded word -/

theorem row_mem_opcodeTable (i : Instr) : i.row ∈ opcodeTable := by
  cases i <;> exact List.elem_iff.mp rfl

open CarriesRow in
/-- The lemmas of the family `CarriesRow` together. -/
theorem carriesRow : ∀ i : Instr, CarriesRow.Statement i
  | .wrTxram .. => wrTxram .. | .wrBgram .. => wrBgram .. | .wrBgaltram .. => wrBgaltram ..
  | .wrRozram .. => wrRozram .. | .wrLayerTxScrollx .. => wrLayerTxScrollx ..
  | .wrLayerTxScrolly .. => wrLayerTxScrolly .. | .wrLayerBgScrollx .. => wrLayerBgScrollx ..
  | .wrLayerBgScrolly .. => wrLayerBgScrolly .. | .wrLayerBgaltScrollx .. => wrLayerBgaltScrollx ..
  | .wrLayerBgaltScrolly .. => wrLayerBgaltScrolly .. | .wrLayerBgLayout .. => wrLayerBgLayout ..
  | .wrLayerUnknown .. => wrLayerUnknown .. | .wrLineram .. => wrLineram ..
  | .wrRozctrlStartxLo .. => wrRozctrlStartxLo .. | .wrRozctrlStartxHi .. => wrRozctrlStartxHi ..
  | .wrRozctrlStartyLo .. => wrRozctrlStartyLo .. | .wrRozctrlStartyHi .. => wrRozctrlStartyHi ..
  | .wrRozctrlIncxxLo .. => wrRozctrlIncxxLo .. | .wrRozctrlIncxxHi .. => wrRozctrlIncxxHi ..
  | .wrRozctrlIncxyLo .. => wrRozctrlIncxyLo .. | .wrRozctrlIncxyHi .. => wrRozctrlIncxyHi ..
  | .wrRozctrlIncyyLo .. => wrRozctrlIncyyLo .. | .wrRozctrlIncyyHi .. => wrRozctrlIncyyHi ..
  | .wrRozctrlIncyxLo .. => wrRozctrlIncyxLo .. | .wrRozctrlIncyxHi .. => wrRozctrlIncyxHi ..
  | .wrRozctrlOffx .. => wrRozctrlOffx .. | .wrRozctrlOffy .. => wrRozctrlOffy ..
  | .wrRozctrlOffselx .. => wrRozctrlOffselx .. | .wrRozctrlOffsely .. => wrRozctrlOffsely ..
  | .wrRozctrlMode .. => wrRozctrlMode .. | .wrRozctrlSpare .. => wrRozctrlSpare ..
  | .wrRozctrlUnknown .. => wrRozctrlUnknown .. | .wrSprram .. => wrSprram .. | .vblank .. => vblank ..
  | .wrCrtcCtrl .. => wrCrtcCtrl .. | .wrCrtcHblank .. => wrCrtcHblank .. | .wrCrtcHdisp .. => wrCrtcHdisp ..
  | .wrCrtcVblank .. => wrCrtcVblank .. | .wrCrtcVdisp .. => wrCrtcVdisp ..
  | .wrCrtcPorchBack .. => wrCrtcPorchBack .. | .wrCrtcPorchFront .. => wrCrtcPorchFront ..
  | .wrCrtcUnknown .. => wrCrtcUnknown .. | .wrPriram .. => wrPriram .. | .render .. => render ..
  | .wrPalram .. => wrPalram .. | .wrBrightB0r0 .. => wrBrightB0r0 .. | .wrBrightB0r1 .. => wrBrightB0r1 ..
  | .wrBrightB1r0 .. => wrBrightB1r0 .. | .wrBrightB1r1 .. => wrBrightB1r1 ..
  | .wrBrightUnknown .. => wrBrightUnknown .. | .reservedOpc0 .. => reservedOpc0 ..
  | .reservedOpc4to7 .. => reservedOpc4to7 .. | .reservedOpc8to15 .. => reservedOpc8to15 ..
  | .reservedComp .. => reservedComp ..

/-- The row of a decoded word tests none of the word's ignored bits. -/
theorem clearIgnored_and_row_mask (w : OpWord) : clearIgnored w &&& (decode w).row.mask = w &&& (decode w).row.mask := by
  by_cases vblank : fieldOpc w = 2
  · have mask : (decode w).row.mask = 0xF000000000000000 := decode_of_vblank vblank ▸ rfl
    rw [clearIgnored, if_pos vblank, mask, BitVec.and_assoc]
    rfl
  by_cases render : fieldOpc w = 3
  · have mask : (decode w).row.mask = 0xF000000000000000 := decode_of_render render ▸ rfl
    rw [clearIgnored, if_neg vblank, if_pos render, mask, BitVec.and_assoc]
    rfl
  · rw [clearIgnored_eq_self vblank render]

theorem row_decode_hits (w : OpWord) : (decode w).row.hits w = true := by
  obtain ⟨-, encoded⟩ := encodeDecodeAgree w
  refine beq_iff_eq.mpr ?_
  calc w &&& (decode w).row.mask
      = encode (decode w) &&& (decode w).row.mask := by rw [encoded, clearIgnored_and_row_mask]
    _ = (decode w).row.bits := carriesRow (decode w)

/-! ## Rows that share a word -/

theorem weight_eq_of_mask_eq {r r' : TableRow} (mask : r.mask = r'.mask) : r.weight = r'.weight := by
  rw [TableRow.weight, TableRow.weight, mask]

/-- Two rows agree on the bits that both test, as they do where one word matches both. -/
def Meets (r r' : TableRow) : Prop := r.bits &&& r'.mask = r'.bits &&& r.mask

theorem meets_of_hits {r r' : TableRow} {w : OpWord} (hits : r.hits w = true) (hits' : r'.hits w = true) : Meets r r' := by
  rw [Meets, ← beq_iff_eq.mp hits, ← beq_iff_eq.mp hits', BitVec.and_assoc, BitVec.and_assoc,
    BitVec.and_comm r.mask]

/-- One row is heavier than another, and is a row that names an offset or the row of the spare block (R61, R114). -/
def Outranks (r r' : TableRow) : Prop :=
  r'.weight < r.weight ∧
    (r.mask = 0xFF0FFFFF00000000 ∨ r.mask = 0xFF0FFFF000000000 ∧ r.bits = 0x1800001000000000)

/-- What the table owes to R61 at two of its rows. -/
def Ranked (r r' : TableRow) : Prop := Meets r r' → Outranks r r' ∨ Outranks r' r

theorem opcodeTable_ranked : opcodeTable.Pairwise Ranked := by
  unfold Ranked Meets Outranks
  decide

theorem ranked_of_mem {r r' : TableRow} (listed : r ∈ opcodeTable) (listed' : r' ∈ opcodeTable) (other : r ≠ r') :
    Ranked r r' := by
  have symmetric : Std.Symm Ranked := ⟨fun _ _ ranked meets => (ranked (Eq.symm meets)).symm⟩
  exact opcodeTable_ranked.forall listed listed' other

/-! ## The fields that a row tests -/

/-- A word that matches a row has the row's bits wherever its mask is all ones. -/
theorem extractLsb'_of_hits {r : TableRow} {w : OpWord} (hits : r.hits w = true) {start len : Nat}
    (tested : r.mask.extractLsb' start len = BitVec.allOnes len) :
    w.extractLsb' start len = r.bits.extractLsb' start len := by
  rw [← beq_iff_eq.mp hits, BitVec.extractLsb'_and, tested, BitVec.and_allOnes]

theorem offset_high_eq (w : OpWord) : (fieldOff w).extractLsb' 4 16 = w.extractLsb' 36 16 := by
  ext b hb
  simp only [fieldOff, BitVec.getElem_extractLsb', BitVec.getLsbD_extractLsb']
  grind

section
variable (off : Offset) (data : Word) (lanes : Lanes)

theorem row_decodeRozctrl : (decodeRozctrl off data lanes).row = (decodeRozctrl off 0 0).row := by
  simp only [decodeRozctrl, apply_ite Instr.row]
  rfl

theorem row_decodeCrtc : (decodeCrtc off data lanes).row = (decodeCrtc off 0 0).row := by
  simp only [decodeCrtc, apply_ite Instr.row]
  rfl

theorem row_decodeBright : (decodeBright off data lanes).row = (decodeBright off 0 0).row := by
  simp only [decodeBright, apply_ite Instr.row]
  rfl

theorem row_decodeLayer : (decodeLayer off data lanes).row = (decodeLayer off 0 0).row := by
  simp only [decodeLayer, apply_ite Instr.row]
  rfl

end

/-- The row of a word is a matter of `OPC`, `COMP` and `OFF`. -/
theorem row_decode_congr {w v : OpWord} (opc : fieldOpc w = fieldOpc v) (comp : fieldComp w = fieldComp v)
    (off : fieldOff w = fieldOff v) : (decode w).row = (decode v).row := by
  simp only [decode, decodeWrite, apply_ite Instr.row, row_decodeRozctrl _ (fieldData _), row_decodeCrtc _ (fieldData _),
    row_decodeBright _ (fieldData _), row_decodeLayer _ (fieldData _), opc, comp, off]
  rfl

/-- The row of every assigned offset is found under it. -/
theorem row_decode_bits : ∀ r ∈ opcodeTable, r.mask = 0xFF0FFFFF00000000 → (decode r.bits).row.mask = r.mask := by
  decide

/-- No matching row outranks the decoder's. -/
theorem not_outranks_row_decode {r : TableRow} {w : OpWord} (listed : r ∈ opcodeTable) (hits : r.hits w = true) :
    ¬ Outranks r (decode w).row := by
  rintro ⟨heavier, mask | ⟨mask, bits⟩⟩
  · have same_row : (decode w).row = (decode r.bits).row :=
      row_decode_congr (extractLsb'_of_hits hits (mask ▸ rfl)) (extractLsb'_of_hits hits (mask ▸ rfl))
        (extractLsb'_of_hits hits (mask ▸ rfl))
    have same_weight : (decode w).row.weight = r.weight :=
      weight_eq_of_mask_eq (same_row ▸ row_decode_bits r listed mask)
    omega
  · have opc : fieldOpc w = 1 := (extractLsb'_of_hits hits (mask ▸ rfl)).trans (bits ▸ rfl)
    have comp : fieldComp w = 8 := (extractLsb'_of_hits hits (mask ▸ rfl)).trans (bits ▸ rfl)
    have high : (fieldOff w).extractLsb' 4 16 = 1 :=
      (offset_high_eq w).trans ((extractLsb'_of_hits hits (mask ▸ rfl)).trans (bits ▸ rfl))
    have decoded : decode w = decodeRozctrl (fieldOff w) (fieldData w) (fieldLanes w) := by
      simp [decode_of_write opc, decodeWrite, comp]
    rw [decoded, weight_eq_of_mask_eq (r' := (Instr.wrRozctrlSpare 0 0 0).row) mask] at heavier
    by_cases mode : fieldOff w = 23
    · rw [mode, row_decodeRozctrl] at heavier
      exact absurd heavier (by decide)
    · rw [decodeRozctrl_spare _ _ high mode] at heavier
      exact lt_irrefl _ heavier

/-- Every other matching row is lighter than the decoder's. -/
theorem weight_lt_of_hits {r : TableRow} {w : OpWord} (listed : r ∈ opcodeTable) (hits : r.hits w = true)
    (other : r ≠ (decode w).row) : r.weight < (decode w).row.weight := by
  obtain outranks | ⟨lighter, -⟩ :=
    ranked_of_mem listed (row_mem_opcodeTable _) other (meets_of_hits hits (row_decode_hits w))
  · exact absurd outranks (not_outranks_row_decode listed hits)
  · exact lighter

/-! ## The selection -/

theorem heavier_some_eq_left {m b : TableRow} (lighter : b ≠ m → b.weight < m.weight) : heavier (some m) b = some m := by
  by_cases same : b = m
  · rw [same, heavier, ite_self]
  · exact if_neg (lighter same).not_gt

theorem heavier_eq_right {a : Option TableRow} {m : TableRow}
    (lighter : ∀ r, a = some r → r ≠ m → r.weight < m.weight) : heavier a m = some m := by
  cases a with
  | none => rfl
  | some r =>
    by_cases same : r = m
    · rw [same, heavier, ite_self]
    · exact if_pos (lighter r rfl same)

theorem heavier_cases (a : Option TableRow) (b : TableRow) : heavier a b = a ∨ heavier a b = some b := by
  cases a with
  | none => exact .inr rfl
  | some r => exact (ite_eq_or_eq _ _ _).symm

/-- The fold finds the one candidate that is heavier than every other. -/
theorem foldl_heavier_eq_some {m : TableRow} {l : List TableRow} {a : Option TableRow} (found : a = some m ∨ m ∈ l)
    (lighter : ∀ r, a = some r ∨ r ∈ l → r ≠ m → r.weight < m.weight) : l.foldl heavier a = some m := by
  induction l generalizing a with
  | nil => exact found.resolve_right List.not_mem_nil
  | cons b l ih =>
    refine ih ?_ fun r candidate => lighter r ?_
    · obtain rfl | first | later := found.imp_right List.mem_cons.mp
      · exact .inl (heavier_some_eq_left (lighter b (.inr List.mem_cons_self)))
      · subst first
        exact .inl (heavier_eq_right fun r kept => lighter r (.inl kept))
      · exact .inr later
    · obtain picked | later := candidate
      · obtain kept | replaced := heavier_cases a b
        · exact .inl (kept ▸ picked)
        · obtain rfl : b = r := Option.some.inj (replaced ▸ picked)
          exact .inr List.mem_cons_self
      · exact .inr (List.mem_cons_of_mem b later)

/-- Settles O3: the decoder's row is listed and matches, and every other matching row is lighter, so that the fold over the matching
rows ends with it. -/
theorem decoderTakesHeaviestRow : Obligations.DecoderTakesHeaviestRow := by
  intro w
  have listed : (decode w).row ∈ opcodeTable := row_mem_opcodeTable _
  have hits : (decode w).row.hits w = true := row_decode_hits w
  refine ⟨listed, hits, fun _ => weight_lt_of_hits,
    foldl_heavier_eq_some (.inr (List.mem_filter.mpr ⟨listed, hits⟩)) ?_⟩
  rintro r (none_yet | candidate)
  · cases none_yet
  · obtain ⟨listed', hits'⟩ := List.mem_filter.mp candidate
    exact weight_lt_of_hits listed' hits'

end Sys2Proof.Proofs
end

section
/-!
The pseudo-operation `WRROZ` (R65): its two words write the halves of an 18-bit field, and the halves join to the value.
-/
namespace Sys2Proof.Proofs

open Sys2Proof.Config Sys2Proof.Machine Sys2Proof.Safety Sys2Proof.Laws

/-- A field is read back from the halves of its value (R65, R88). -/
theorem field18_low18_high18 {v : Int} (least : -131072 ≤ v) (most : v ≤ 131071) : field18 (low18 v) (high18 v) = v := by
  have halves : (high18 v).extractLsb' 0 2 ++ (low18 v).extractLsb' 0 16 = BitVec.ofInt 18 v := by
    rw [high18, low18, BitVec.extractLsb'_setWidth_of_le (by decide), BitVec.extractLsb'_setWidth_of_le (by decide),
      BitVec.extractLsb'_eq_self, BitVec.extractLsb'_eq_self]
    exact BitVec.extractLsb'_append_extractLsb'
  rw [field18, halves]
  exact BitVec.toInt_ofInt_eq_self (by decide) least (Int.lt_add_one_of_le most)

/-- With every lane enabled a write replaces the word (R43). -/
theorem mergeLanes_full (old data : Word) : mergeLanes old data 0xF = data := by
  have all_lanes : lanemask 0xF = BitVec.allOnes 32 := by decide
  rw [mergeLanes, all_lanes, BitVec.not_allOnes, BitVec.and_zero, BitVec.and_allOnes, BitVec.zero_or]

/-- The `ROZCTRL` word of a field's low half (R27). -/
def lowWord (f : RozField) : Fin 32 := Fin.ofNat 32 (rozFieldOff f).toNat

/-- The `ROZCTRL` word of a field's high half (R27). -/
def highWord (f : RozField) : Fin 32 := Fin.ofNat 32 (rozFieldOff f + 1).toNat

theorem lowWord_ne_highWord (f : RozField) : lowWord f ≠ highWord f := by
  cases f <;> decide

/-- A line that writes one of the first sixteen words of `ROZCTRL`, all of them named (R27, R60). -/
theorem exec_assemble_rozctrl {off : Offset} (named : off.toNat < 16) (data : Word) (s : State) :
    exec (decode (assemble (.wr (.reg .roz off) data))) s = .next (rozWrite (Fin.ofNat 32 off.toNat) data 0xF s) := by
  obtain ⟨k, rfl⟩ : ∃ k : Fin 16, off = BitVec.ofNat 20 k := ⟨⟨off.toNat, named⟩, by simp⟩
  refine (congrArg (exec · s) (decode_packWrite_rozctrl _ data 0xF)).trans ?_
  fin_cases k <;> rfl

theorem exec_lowWord (f : RozField) (data : Word) (s : State) :
    exec (decode (assemble (.wr (.reg .roz (rozFieldOff f)) data))) s = .next (rozWrite (lowWord f) data 0xF s) :=
  exec_assemble_rozctrl (by cases f <;> decide) data s

theorem exec_highWord (f : RozField) (data : Word) (s : State) :
    exec (decode (assemble (.wr (.reg .roz (rozFieldOff f + 1)) data))) s = .next (rozWrite (highWord f) data 0xF s) :=
  exec_assemble_rozctrl (by cases f <;> decide) data s

/-- A run over delivered words begins with the first word's operation. -/
theorem runWords_of_exec {s t : State} {w : OpWord} (none_delivered : s.stream = []) (first : exec (decode w) s = .next t)
    (ws : List OpWord) : runWords s (w :: ws) = runWords t ws := by
  obtain ⟨u, first', run⟩ := wordsTakeEffectInOrder.2 s w ws none_delivered
  obtain rfl : t = u := Host.Outcome.next.inj (first.symm.trans first')
  exact run

theorem deliver_nil (s : State) : deliver s [] = s :=
  congrArg s.setStream (List.append_nil s.stream)

/-- A run of the two words of `WRROZ`. -/
theorem runWords_wrroz {s : State} (none_delivered : s.stream = []) (f : RozField) (v : Int) :
    runWords s ((expand (.wrroz f v)).map assemble) =
      .next (rozWrite (highWord f) (high18 v) 0xF (rozWrite (lowWord f) (low18 v) 0xF s)) := by
  have still_none : (rozWrite (lowWord f) (low18 v) 0xF s).stream = [] := none_delivered
  rw [expand, List.map, List.map, List.map, runWords_of_exec none_delivered (exec_lowWord f _ s),
    runWords_of_exec still_none (exec_highWord f _ _), runWords_nil, deliver_nil]

/-- Settles O40: both words are written whole, and the second leaves the first alone. -/
theorem wrrozSetsField : Obligations.WrrozSetsField := by
  intro s f v none_delivered least most
  refine ⟨_, runWords_wrroz none_delivered f v, ?_⟩
  generalize written : rozWrite (highWord f) (high18 v) 0xF (rozWrite (lowWord f) (low18 v) 0xF s) = t
  have low : t.rozctrl[lowWord f] = low18 v := by
    rw [← written, rozWrite_rozctrl, if_neg (lowWord_ne_highWord f), rozWrite_rozctrl, if_pos rfl, mergeLanes_full]
  have high : t.rozctrl[highWord f] = high18 v := by
    rw [← written, rozWrite_rozctrl, if_pos rfl, mergeLanes_full]
  have value : field18 t.rozctrl[lowWord f] t.rozctrl[highWord f] = v := by
    rw [low, high, field18_low18_high18 least most]
  cases f <;> exact value

end Sys2Proof.Proofs
end

section
/-!
The tile layers: source coordinates wrap into the plane, their cells into the grid, and a flip mirrors a layer across the visible
rectangle (R67, R83, R84, R85, R87, R91, R94).
-/
namespace Sys2Proof.Proofs

open Sys2Proof.Config Sys2Proof.Machine Sys2Proof.Safety Sys2Proof.Laws

/-! ## Wrapping and mirroring -/

/-- A remainder by a positive size lies below it (R170). -/
theorem wrap_lt (a : Int) {b : Nat} (positive : 0 < b) : wrap a b < b :=
  (Int.toNat_lt_of_ne_zero positive.ne').2 (Int.emod_lt_of_pos a (Int.natCast_pos.2 positive))

/-- The wrapped coordinate is the natural number that is the integer remainder (R170). -/
theorem wrap_eq {u b : Nat} {a : Int} (remainder : (u : Int) = a % (b : Int)) : wrap a b = u := by
  rw [wrap, ← remainder, Int.toNat_natCast]

/-- Inside the extent, mirroring a coordinate is taking that of the mirrored place (R83). -/
theorem mirror_true {extent x : Nat} (inside : x < extent) : mirror true extent x = mirror false extent (extent - 1 - x) := by
  simp only [mirror, if_true, Bool.false_eq_true, if_false]
  omega

/-- A mirrored plane coordinate stays in the plane (R91). -/
theorem planeMirrored_lt (c : Cfg) (flip : Bool) {extent u : Nat} (inside : u < extent) :
    planeMirrored c flip extent u < extent := by
  unfold planeMirrored
  split
  · split <;> omega
  · exact inside
  · exact inside

/-! ## Planes and cells -/

/-- The cell of a pixel of the plane is a cell of the grid (R68, R87). -/
theorem cellOf_lt {c : Cfg} {L : Layer} {u v : Nat} (u_lt : u < planeW c L) (v_lt : v < planeH c L) :
    cellOf c L u v < c.cols L * c.rows L := by
  have col_lt : u / c.tw L < c.cols L := Nat.div_lt_of_lt_mul (by rwa [Nat.mul_comm])
  have row_lt : v / c.th L < c.rows L := Nat.div_lt_of_lt_mul (by rwa [Nat.mul_comm])
  calc v / c.th L * c.cols L + u / c.tw L
      < v / c.th L * c.cols L + c.cols L := Nat.add_lt_add_left col_lt _
    _ = (v / c.th L + 1) * c.cols L := (Nat.succ_mul _ _).symm
    _ ≤ c.rows L * c.cols L := Nat.mul_le_mul_right _ row_lt
    _ = c.cols L * c.rows L := Nat.mul_comm _ _

section
variable {c : Cfg} (legal : c.Legal)
include legal

/-- A plane has pixels (R67; log 5). -/
theorem planeW_pos (L : Layer) : 0 < planeW c L := Nat.mul_pos (legal.cols_pos L) (legal.tw_pos L)

theorem planeH_pos (L : Layer) : 0 < planeH c L := Nat.mul_pos (legal.rows_pos L) (legal.th_pos L)

/-- The source pixel of TX, BG and BGALT lies in the plane (R84). -/
theorem scrollCoord_lt (s : State) (L : ScrollLayer) (x y : Nat) :
    (scrollCoord c s L x y).1 < planeW c (scrollLayer L) ∧ (scrollCoord c s L x y).2 < planeH c (scrollLayer L) :=
  ⟨wrap_lt _ (planeW_pos legal _), wrap_lt _ (planeH_pos legal _)⟩

/-- The source pixel of ROZ lies in the plane, in both modes and under every flip (R91, R94). -/
theorem rozCoord_lt (s : State) (x y : Nat) :
    (rozCoord c s x y).1 < planeW c .roz ∧ (rozCoord c s x y).2 < planeH c .roz :=
  ⟨planeMirrored_lt c _ (wrap_lt _ (planeW_pos legal _)), planeMirrored_lt c _ (wrap_lt _ (planeH_pos legal _))⟩

end

/-! ## The obligations -/

/-- Settles O33: the given remainders are the layer's source coordinate, and `drawPlane_at` says what the draw leaves at the pixel. -/
theorem scrollLayerDraw : Obligations.ScrollLayerDraw := by
  intro c _ s L tag k sc x y u v lay xs ys clip_in x_lt u_eq v_eq cell even odd g t
  have coord : scrollCoord c s L x y = (u, v) := Prod.ext (wrap_eq u_eq) (wrap_eq v_eq)
  have drawn : (tileColorAt c t x y, tileTagAt c t x y) =
      if k.Holds x y ∧ g.1 ≠ c.transpen lay then (g.2, tag) else (tileColorAt c sc x y, tileTagAt c sc x y) := by
    have at_pixel := drawPlane_at clip_in x_lt s.mem lay tag (scrollCoord c s L) sc (y := y)
    rw [coord] at at_pixel
    exact at_pixel
  refine ⟨drawPlane_sprites k s.mem lay tag (scrollCoord c s L) sc, ?_⟩
  split
  next stamped =>
    rw [if_pos stamped] at drawn
    exact Prod.mk.inj drawn
  next not_stamped =>
    rw [if_neg not_stamped] at drawn
    exact Prod.mk.inj drawn

/-- Settles O34: on each axis the source coordinate depends on the flip through `mirror` alone. -/
theorem flipMirrorsLayer : Obligations.FlipMirrorsLayer := by
  intro c s L x y x_lt y_lt
  simp only [scrollCoord, setFlips_flipX, setFlips_flipY, setFlips_geom, setFlips_layer, layerBits_all_get,
    mirror_true x_lt, mirror_true y_lt]

/-- Settles O35. -/
theorem coordinatesStayInPlane : Obligations.CoordinatesStayInPlane := by
  refine fun c legal s x y => ⟨fun L => ?_, ?_⟩
  · obtain ⟨u_lt, v_lt⟩ := scrollCoord_lt legal s L x y
    exact ⟨u_lt, v_lt, cellOf_lt u_lt v_lt⟩
  · obtain ⟨u_lt, v_lt⟩ := rozCoord_lt legal s x y
    exact ⟨u_lt, v_lt, cellOf_lt u_lt v_lt⟩

end Sys2Proof.Proofs
end

section
/-!
The ROZ layer: its source pixel as the remainder of the transformed coordinate, under both addressing modes and every flip, and its
draw (R89, R91, R92, R93, R94, R95).
-/
namespace Sys2Proof.Proofs

open Sys2Proof.Config Sys2Proof.Machine Sys2Proof.Safety Sys2Proof.Laws

/-! ## One axis -/

/-- The wrapped coordinate, read as an integer, is the remainder by a positive size (R170). -/
theorem natCast_wrap (a : Int) {b : Nat} (positive : 0 < b) : ((wrap a b : Nat) : Int) = a % (b : Int) :=
  Int.toNat_of_nonneg (Int.emod_nonneg a (Int.natCast_ne_zero.2 positive.ne'))

/-- A coordinate of the plane is mirrored across it under `PLANE_MIRROR` with the flip bit set, and stays under any other mode
(R91). -/
theorem natCast_planeMirrored (c : Cfg) (flip : Bool) {extent u : Nat} (inside : u < extent) :
    ((planeMirrored c flip extent u : Nat) : Int) =
      if c.rozFlipMode = .planeMirror ∧ flip = true then (extent : Int) - 1 - u else u := by
  unfold planeMirrored
  cases c.rozFlipMode with
  | planeMirror =>
    cases flip with
    | true =>
      simp only [if_true, and_self]
      omega
    | false => simp
  | screenMirror => simp
  | none => simp

@[simp] theorem planeMirrored_false (c : Cfg) (extent u : Nat) : planeMirrored c false extent u = u := by
  unfold planeMirrored
  split <;> rfl

/-- `floor_div` by a power of two is integer division (R167). -/
theorem floorFrac_eq (a : Int) (frac : Nat) : floorFrac a frac = a / 2 ^ frac := by
  rw [floorFrac, Nat.cast_pow, Nat.cast_ofNat]

/-- The last steps of the transform on one axis: scale down, wrap into the plane, mirror across it (R91, R92, R93). -/
theorem natCast_planeMirrored_wrap (c : Cfg) (flip : Bool) {extent : Nat} (positive : 0 < extent) (a : Int) (frac : Nat) :
    ((planeMirrored c flip extent (wrap (floorFrac a frac) extent) : Nat) : Int) =
      if c.rozFlipMode = .planeMirror ∧ flip = true then (extent : Int) - 1 - a / 2 ^ frac % extent
      else a / 2 ^ frac % extent := by
  rw [natCast_planeMirrored c flip (wrap_lt _ positive), natCast_wrap _ positive, floorFrac_eq]

/-! ## Both axes -/

/-- The destination is mirrored across the visible rectangle under `SCREEN_MIRROR` with the flip bit set, and stays under any other
mode (R91). -/
theorem rozInput_eq (c : Cfg) (s : State) (x y : Nat) : rozInput c s x y =
    (if c.rozFlipMode = .screenMirror ∧ s.flipX.roz = true then (s.geom.visW : Int) - 1 - x else x,
     if c.rozFlipMode = .screenMirror ∧ s.flipY.roz = true then (s.geom.visH : Int) - 1 - y else y) := by
  unfold rozInput mirror
  cases c.rozFlipMode <;> simp

/-- With no flip the destination is the input under every flip mode (R91). -/
theorem rozInput_unflipped (c : Cfg) {s : State} (unflippedX : s.flipX.roz = false) (unflippedY : s.flipY.roz = false) (x y : Nat) :
    rozInput c s x y = ((x : Int), (y : Int)) := by
  simp [rozInput_eq, unflippedX, unflippedY]

/-- The unwrapped source coordinates `UF`, `VF` of a destination pixel, by the mode (R92, R93). -/
def rozUnwrapped (c : Cfg) (s : State) (x y : Nat) : Int × Int :=
  if rozSuper s.rozctrl then rozLine c s.mem s.rozctrl (rozInput c s x y).1 (rozInput c s x y).2
  else rozSimple c s.rozctrl (rozInput c s x y).1 (rozInput c s x y).2

/-- The source pixel is the unwrapped one, scaled down, wrapped and mirrored on each axis (R91, R92, R93). -/
theorem rozCoord_eq (c : Cfg) (s : State) (x y : Nat) : rozCoord c s x y =
    (planeMirrored c s.flipX.roz (planeW c .roz) (wrap (floorFrac (rozUnwrapped c s x y).1 c.rozFracBits) (planeW c .roz)),
     planeMirrored c s.flipY.roz (planeH c .roz) (wrap (floorFrac (rozUnwrapped c s x y).2 c.rozFracBits) (planeH c .roz))) :=
  rfl

/-- With the unit matrix the unwrapped source pixel is the destination moved by start and offset, in fractions of a pixel (R92). -/
theorem rozSimple_unit (c : Cfg) {r : Vector Word 32} (incXX : rozIncXX r = 0x100) (incYY : rozIncYY r = 0x100)
    (incXY : rozIncXY r = 0) (incYX : rozIncYX r = 0) (frac : c.rozFracBits = 8) (xd yd : Int) :
    rozSimple c r xd yd =
      ((rozStartX r + rozOffX c r + xd) * 2 ^ c.rozFracBits, (rozStartY r + rozOffY c r + yd) * 2 ^ c.rozFracBits) := by
  simp only [rozSimple, incXX, incYY, incXY, incYX, frac]
  ext <;> ring

/-! ## The obligations -/

/-- Settles O37: on each axis the source pixel is `natCast_planeMirrored_wrap` of the unwrapped coordinate, which the two modes give
for the input `rozInput_eq`. -/
theorem rozCoordinates : Obligations.RozCoordinates := by
  intro c s x y legal z xd yd one offX offY n line UF VF PW PH q
  have input : rozInput c s x y = (xd, yd) := rozInput_eq c s x y
  have unwrapped : rozUnwrapped c s x y = (UF, VF) := by
    have pow_cast : ((2 ^ c.rozFracBits : Nat) : Int) = one := by rw [Nat.cast_pow, Nat.cast_ofNat]
    rw [rozUnwrapped, input, rozLine, rozSimple, pow_cast]
    exact (apply_ite₂ Prod.mk (rozSuper z = true) ..).symm
  have coord := rozCoord_eq c s x y
  rw [unwrapped] at coord
  obtain ⟨u_eq, v_eq⟩ := Prod.mk.inj coord
  exact ⟨(congrArg Nat.cast u_eq).trans (natCast_planeMirrored_wrap c s.flipX.roz (planeW_pos legal .roz) UF c.rozFracBits),
    (congrArg Nat.cast v_eq).trans (natCast_planeMirrored_wrap c s.flipY.roz (planeH_pos legal .roz) VF c.rozFracBits)⟩

/-- Settles O38: without a flip nothing is mirrored, and the scale of `rozSimple_unit` is the one that is divided out (R92). -/
theorem rozUnitMatrixScrolls : Obligations.RozUnitMatrixScrolls := by
  intro c s x y legal simple unflippedX unflippedY incXX incYY incXY incYX
  have not_super : ¬ rozSuper s.rozctrl = true := Bool.eq_false_iff.1 simple
  have scale_ne_zero : (2 : Int) ^ c.rozFracBits ≠ 0 := pow_ne_zero _ two_ne_zero
  rw [rozCoord_eq, rozUnwrapped, if_neg not_super, rozInput_unflipped c unflippedX unflippedY,
    rozSimple_unit c incXX incYY incXY incYX legal.rozFracBits_eq, unflippedX, unflippedY]
  simp only [planeMirrored_false, natCast_wrap _ (planeW_pos legal .roz), natCast_wrap _ (planeH_pos legal .roz), floorFrac_eq,
    Int.mul_ediv_cancel _ scale_ne_zero]
  exact ⟨rfl, rfl⟩

/-- Settles O39: the draw of ROZ is `drawPlane` at the source pixel of R91 to R93, and `drawPlane_at` says what it leaves at the pixel;
`samplePlane` is the cell's sample written out (R69, R94). -/
theorem rozLayerDraw : Obligations.RozLayerDraw := by
  intro c _ s tag k sc x y clip_in x_lt u v cell even odd g t
  have drawn : (tileColorAt c t x y, tileTagAt c t x y) =
      if k.Holds x y ∧ g.1 ≠ c.transpen .roz then (g.2, tag) else (tileColorAt c sc x y, tileTagAt c sc x y) :=
    drawPlane_at clip_in x_lt s.mem .roz tag (rozCoord c s) sc
  refine ⟨drawPlane_sprites k s.mem .roz tag (rozCoord c s) sc, ?_⟩
  split_ifs at drawn ⊢
  · exact Prod.mk.inj drawn
  · exact Prod.mk.inj drawn

end Sys2Proof.Proofs
end

section
/-!
The walk of the sprite list (R122, R125): its order, the entries it skips, and what one entry and the whole walk leave at a pixel.
-/
namespace Sys2Proof.Proofs

open Sys2Proof.Config Sys2Proof.Machine Sys2Proof.Safety Sys2Proof.Laws

/-! ## The order -/

theorem mem_spriteOrder {c : Cfg} {e : Nat} : e ∈ spriteOrder c ↔ e < c.sprEntries := by
  unfold spriteOrder
  cases c.sprOrder with
  | ascending => exact List.mem_range
  | descending => exact List.mem_reverse.trans List.mem_range

/-- Settles O27: a range rises strictly, and its reverse falls strictly. -/
theorem spriteWalkOrder : Obligations.SpriteWalkOrder := by
  intro c
  refine ⟨fun e => mem_spriteOrder, fun ascending => ?_, fun descending => ?_⟩
  · rw [spriteOrder, ascending]
    exact List.pairwise_lt_range
  · rw [spriteOrder, descending]
    exact List.pairwise_reverse.2 List.pairwise_lt_range

/-! ## One entry -/

theorem spriteSkipped_iff {e : SpriteEntry} :
    spriteSkipped e = true ↔ e.disable = true ∨ e.xzoom = 0 ∨ e.yzoom = 0 := by
  simp only [spriteSkipped, Bool.or_eq_true, beq_iff_eq, or_assoc]

section
variable {c : Cfg} {m : Storage} {k : Clip} {e : Nat}

theorem drawSprite_of_skipped (skipped : spriteSkipped (spriteEntry c m e) = true) (sc : Scratch) :
    drawSprite c m k sc e = sc :=
  if_pos skipped

theorem drawSprite_of_not_skipped (not_skipped : spriteSkipped (spriteEntry c m e) = false) (sc : Scratch) :
    drawSprite c m k sc e = (c.sprBlit c.sprGfx (spriteEntry c m e) k).foldl
      (fun sc p => stampSprite c p.x p.y p.palidx (spriteEntry c m e).pri sc) sc :=
  if_neg (Bool.eq_false_iff.1 not_skipped)

end

/-- Settles O25: the walk after the entry starts from the buffers the walk before it left. -/
theorem skippedSpriteDrawsNothing : Obligations.SkippedSpriteDrawsNothing := by
  intro c m k sc before after e contributes_nothing
  rw [List.foldl_append, List.foldl_cons, drawSprite_of_skipped (spriteSkipped_iff.2 contributes_nothing),
    ← List.foldl_append]

/-! ## A pixel of the sprite buffers -/

/-- Both sprite buffers at a pixel (R126). -/
def spriteAt (c : Cfg) (x y : Nat) (sc : Scratch) : Half × Nat := (sprColorAt c sc x y, sprPriAt c sc x y)

section
variable {c : Cfg} {m : Storage} {k : Clip} {e x y : Nat}

theorem spriteAt_stampSprite_same (x_lt : x < c.outW) (palidx : Half) (pri : Nat) (sc : Scratch) :
    spriteAt c x y (stampSprite c x y palidx pri sc) = (palidx, pri % 2 ^ c.sprPriBits) := by
  simp only [spriteAt, sprColorAt_stampSprite x_lt x_lt, sprPriAt_stampSprite x_lt x_lt, and_self, if_true]

theorem spriteAt_stampSprite_other {x' y' : Nat} (x_lt : x < c.outW) (x'_lt : x' < c.outW) (other : ¬ (x = x' ∧ y = y'))
    (palidx : Half) (pri : Nat) (sc : Scratch) :
    spriteAt c x y (stampSprite c x' y' palidx pri sc) = spriteAt c x y sc := by
  simp only [spriteAt, sprColorAt_stampSprite x_lt x'_lt, sprPriAt_stampSprite x_lt x'_lt, if_neg other]

/-- A pixel that a blit draws lies in the columns of the bitmap (R123 item 1, R144). -/
theorem blit_x_lt (legal : c.Legal) (clip_in : ClipIn c k) {gfx : SprGfx} {entry : SpriteEntry} {p : SprPixel}
    (drawn : p ∈ c.sprBlit gfx entry k) : p.x < c.outW :=
  Nat.lt_of_le_of_lt (legal.blit.inside gfx entry k p drawn).2.1 clip_in.1

/-- A blit draws a place once (R123). -/
theorem eq_of_blit_place (legal : c.Legal) {gfx : SprGfx} {entry : SpriteEntry} {p q : SprPixel}
    (p_drawn : p ∈ c.sprBlit gfx entry k) (q_drawn : q ∈ c.sprBlit gfx entry k) (place : p.x = q.x ∧ p.y = q.y) : p = q :=
  List.inj_on_of_nodup_map (legal.blit.unique gfx entry k) p_drawn q_drawn (Prod.ext place.1 place.2)

variable (clip_in : ClipIn c k) (x_lt : x < c.outW)
include clip_in x_lt

/-- An entry that does not cover the pixel leaves it. -/
theorem spriteAt_drawSprite_uncovered (legal : c.Legal) (uncovered : ∀ q, ¬ SpriteCovers c m k e x y q) (sc : Scratch) :
    spriteAt c x y (drawSprite c m k sc e) = spriteAt c x y sc := by
  cases skip : spriteSkipped (spriteEntry c m e) with
  | true => rw [drawSprite_of_skipped skip]
  | false =>
    rw [drawSprite_of_not_skipped skip]
    refine foldl_keeps _ (spriteAt c x y) _ _ fun t p drawn => ?_
    have elsewhere : ¬ (x = p.x ∧ y = p.y) := by
      rintro ⟨rfl, rfl⟩
      exact uncovered p.palidx ⟨skip, drawn⟩
    exact spriteAt_stampSprite_other x_lt (blit_x_lt legal clip_in drawn) elsewhere _ _ t

/-- An entry that covers the pixel decides it, since no other pixel of its blit is at the place. -/
theorem spriteAt_drawSprite_covered (legal : c.Legal) {palidx : Half} (covers : SpriteCovers c m k e x y palidx)
    (sc : Scratch) :
    spriteAt c x y (drawSprite c m k sc e) = (palidx, (spriteEntry c m e).pri % 2 ^ c.sprPriBits) := by
  obtain ⟨not_skipped, drawn⟩ := covers
  rw [drawSprite_of_not_skipped not_skipped]
  have at_pixel := foldl_at (fun sc p => stampSprite c p.x p.y p.palidx (spriteEntry c m e).pri sc) (spriteAt c x y)
    (fun _ => (palidx, (spriteEntry c m e).pri % 2 ^ c.sprPriBits)) ⟨x, y, palidx⟩
    (c.sprBlit c.sprGfx (spriteEntry c m e) k) sc (List.Nodup.of_map _ (legal.blit.unique _ _ _))
    (fun t p p_drawn other => spriteAt_stampSprite_other x_lt (blit_x_lt legal clip_in p_drawn)
      (fun place => other (eq_of_blit_place legal drawn p_drawn place).symm) _ _ t)
    (fun t _ => spriteAt_stampSprite_same x_lt _ _ t)
  rw [at_pixel, if_pos drawn]

/-- A walk none of whose entries covers the pixel leaves it. -/
theorem spriteAt_walk_uncovered (legal : c.Legal) {es : List Nat} (uncovered : ∀ e ∈ es, ∀ q, ¬ SpriteCovers c m k e x y q)
    (sc : Scratch) : spriteAt c x y (es.foldl (drawSprite c m k) sc) = spriteAt c x y sc :=
  foldl_keeps _ (spriteAt c x y) es sc fun t e walked =>
    spriteAt_drawSprite_uncovered clip_in x_lt legal (uncovered e walked) t

end

/-- Settles O26: the entries after the last covering one leave what that one decided. -/
theorem lastSpriteOfWalkWins : Obligations.LastSpriteOfWalkWins := by
  intro c legal m k sc x y clip_in x_lt
  refine ⟨fun before e after palidx order covers last => ?_, fun uncovered => ?_⟩
  · have decided : spriteAt c x y (drawSprites c m k sc) = (palidx, (spriteEntry c m e).pri % 2 ^ c.sprPriBits) := by
      rw [drawSprites, order, List.foldl_append, List.foldl_cons, spriteAt_walk_uncovered clip_in x_lt legal last,
        spriteAt_drawSprite_covered clip_in x_lt legal covers]
    exact Prod.mk.inj decided
  · exact Prod.mk.inj (spriteAt_walk_uncovered clip_in x_lt legal uncovered sc)

/-- Settles O28: outside the clip no entry covers a pixel, and no entry writes a tile buffer. -/
theorem spritesStayInClip : Obligations.SpritesStayInClip := by
  intro c legal m k sc clip_in
  refine ⟨foldl_keeps _ Scratch.tileColor _ sc fun t e _ => (drawSprite_tiles m k t e).1,
    foldl_keeps _ Scratch.tileTag _ sc fun t e _ => (drawSprite_tiles m k t e).2, fun x y x_lt outside => ?_⟩
  have uncovered : ∀ e ∈ spriteOrder c, ∀ q, ¬ SpriteCovers c m k e x y q := fun e _ q covers =>
    outside (legal.blit.inside _ _ _ _ covers.2)
  exact Prod.mk.inj (spriteAt_walk_uncovered clip_in x_lt legal uncovered sc)

end Sys2Proof.Proofs
end

section
/-!
The vertical blank (R118): what a word of the display buffer holds after it, and what later operations leave of that.
-/
namespace Sys2Proof.Proofs

open Sys2Proof.Config Sys2Proof.Machine Sys2Proof.Safety Sys2Proof.Laws

/-! ## One vertical blank -/

section
variable (c : Cfg) (s : State)

theorem latchSprites_get_sprDisp : (latchSprites c s).mem.get .sprDisp = copySprites c s.mem :=
  storage_get_set_same s.mem .sprDisp _

theorem latchSprites_get_other {sp : Space} (other : sp ≠ .sprDisp) : (latchSprites c s).mem.get sp = s.mem.get sp :=
  storage_get_set_other s.mem _ other

/-- A byte of the display buffer after a vertical blank: the live buffer's, and beyond its words the old one. -/
theorem latchSprites_byteAt (a : Nat) : byteAt c (latchSprites c s).mem .sprDisp a =
    if a / 4 < spaceSize c .sprLive then byteAt c s.mem .sprLive a else byteAt c s.mem .sprDisp a := by
  rw [byteAt, latchSprites_get_sprDisp, copySprites_byte]

/-- A word of the display buffer after a vertical blank: the live buffer's, and beyond its words the old one. -/
theorem latchSprites_wordAt (i : Nat) : wordAt c (latchSprites c s).mem .sprDisp i =
    if i < spaceSize c .sprLive then wordAt c s.mem .sprLive i else wordAt c s.mem .sprDisp i := by
  have word_of_byte : ∀ k, k < 4 → (4 * i + k) / 4 = i := fun k lane => by omega
  split
  next live => exact wordAt_congr c fun k lane => by rw [latchSprites_byteAt, word_of_byte k lane, if_pos live]
  next beyond => exact wordAt_congr c fun k lane => by rw [latchSprites_byteAt, word_of_byte k lane, if_neg beyond]

end

/-! ## What stays of a vertical blank -/

/-- The state `u` shows what a vertical blank at `s` leaves: the live buffer of `s`, and its words in the display buffer. -/
structure ShowsLatch (c : Cfg) (s u : State) : Prop where
  live : u.mem.get .sprLive = s.mem.get .sprLive
  disp : ∀ i, wordAt c u.mem .sprDisp i = wordAt c (latchSprites c s).mem .sprDisp i

theorem showsLatch_latchSprites (c : Cfg) (s : State) : ShowsLatch c s (latchSprites c s) :=
  ⟨latchSprites_get_other c s (by decide), fun _ => rfl⟩

/-- A further vertical blank copies the same live words again (R118). -/
theorem ShowsLatch.latch_again {c : Cfg} {s u : State} (shows : ShowsLatch c s u) :
    ShowsLatch c s (latchSprites c u) where
  live := (latchSprites_get_other c u (by decide)).trans shows.live
  disp i := by
    rw [latchSprites_wordAt, shows.disp, latchSprites_wordAt, wordAt, shows.live]
    split <;> rfl

/-- Every operation but `WR_SPRRAM` keeps what a vertical blank left, a further `VBLANK` included (R24, R118). -/
theorem ShowsLatch.of_exec {s u v : State} {i : Instr} (shows : ShowsLatch cfg s u)
    (not_sprram : ∀ off data lanes, i ≠ .wrSprram off data lanes) (h : exec i u = .next v) : ShowsLatch cfg s v := by
  obtain ⟨disp_kept, live_kept, -⟩ := spriteBuffersAreOwned i u v h
  by_cases vblank : i = .vblank
  · subst vblank
    obtain rfl := Host.Outcome.next.inj h
    exact shows.latch_again
  · refine ⟨(live_kept not_sprram).trans shows.live, fun i => ?_⟩
    have disp_eq : v.mem.get .sprDisp = u.mem.get .sprDisp := disp_kept vblank
    rw [← shows.disp, wordAt, wordAt, disp_eq]

/-- A step with a word delivered runs its operation, which leaves the words behind it (R204). -/
theorem exists_step_cons {s : State} {w : OpWord} {ws : List OpWord} (delivered : s.stream = w :: ws) :
    ∃ t, step s = .next t ∧ exec (decode w) (s.setStream ws) = .next t ∧ t.stream = ws := by
  obtain ⟨f, effect, completes⟩ := exists_effect (decode w)
  exact ⟨f (s.setStream ws), (step_cons delivered).trans (completes _), completes _,
    effect.ignoresStream.stream (s.setStream ws)⟩

/-- A run over delivered words without a `WR_SPRRAM` keeps what a vertical blank left. -/
theorem ShowsLatch.of_runSteps {s : State} (n : Nat) {u : State} (shows : ShowsLatch cfg s u) (delivered : n ≤ u.stream.length)
    (no_sprram : ∀ w ∈ u.stream.take n, ∀ off data lanes, decode w ≠ .wrSprram off data lanes) :
    ∃ v, runSteps n u = .next v ∧ ShowsLatch cfg s v := by
  induction n generalizing u with
  | zero => exact ⟨u, rfl, shows⟩
  | succ n ih =>
    match stream_eq : u.stream with
    | [] => simp [stream_eq] at delivered
    | w :: ws =>
      rw [stream_eq, List.take_succ_cons, List.forall_mem_cons] at no_sprram
      rw [stream_eq, List.length_cons, Nat.add_le_add_iff_right] at delivered
      obtain ⟨not_sprram, none_behind⟩ := no_sprram
      obtain ⟨t, stepped, executed, rfl⟩ := exists_step_cons stream_eq
      have taken : ShowsLatch cfg s (u.setStream t.stream) := ⟨shows.live, shows.disp⟩
      rw [runSteps_succ stepped]
      exact ih (taken.of_exec not_sprram executed) delivered none_behind

/-! ## The obligations -/

/-- Settles O23: the words are `latchSprites_wordAt`, and `ShowsLatch` is what the operations in between and the second `VBLANK`
keep. -/
theorem vblankLatchesSprites : Obligations.VblankLatchesSprites := by
  refine ⟨fun w opc => decode_of_vblank opc, fun s => ?_⟩
  refine ⟨latchSprites cfg s, rfl, rfl, fun sp => latchSprites_get_other cfg s, fun i live => ?_, fun a beyond => ?_,
    fun n delivered no_sprram => ?_⟩
  · exact (latchSprites_wordAt cfg s i).trans (if_pos live)
  · have past_live : ¬ a / 4 < spaceSize cfg .sprLive := by
      simp only [spaceSize]
      omega
    rw [latchSprites_byteAt, if_neg past_live]
  · obtain ⟨u, ran, shows⟩ := (showsLatch_latchSprites cfg s).of_runSteps n delivered no_sprram
    exact ⟨u, ran, latchSprites cfg u, rfl, shows.latch_again.disp⟩

/-- Settles O24: a copy of what is already copied reads as the display buffer at every byte, so that the two canonical lists are
one (log 8). -/
theorem secondVblankChangesNothing : Obligations.SecondVblankChangesNothing := by
  intro s t inv h
  obtain rfl := Host.Outcome.next.inj h
  have inv_latched : Inv cfg (latchSprites cfg s) := inv_latchSprites inv
  have same_bytes : ∀ a, cellRead (resetByte cfg .sprDisp) (copySprites cfg (latchSprites cfg s).mem) a =
      byteAt cfg (latchSprites cfg s).mem .sprDisp a := fun a => by
    rw [copySprites_byte, latchSprites_byteAt]
    split
    · rw [byteAt, latchSprites_get_other cfg s (by decide)]
      rfl
    · rfl
  have same_cells : copySprites cfg (latchSprites cfg s).mem = (latchSprites cfg s).mem.get .sprDisp :=
    cells_ext _ (cellsOk_copySprites (inv_latched.mem .sprDisp)).wf (inv_latched.mem .sprDisp).wf same_bytes
  have same_state : latchSprites cfg (latchSprites cfg s) = latchSprites cfg s := by
    rw [latchSprites, same_cells, State.setMem, storage_set_get_self]
  exact congrArg Host.Outcome.next same_state

end Sys2Proof.Proofs
end

section
/-!
The blit of a sprite (R123; log 7): a sampling's two axes taken apart, and what a flip and a zoom do on each.
-/
namespace Sys2Proof.Proofs

open Sys2Proof.Config Sys2Proof.Machine Sys2Proof.Safety Sys2Proof.Laws

/-! ## One axis -/

/-- What a sprite entry says about one axis (R120). -/
structure AxisEntry where
  flip : Bool
  tile : Nat
  size : Nat
  pos : Int
  zoom : Nat

def horOf (e : SpriteEntry) : AxisEntry := ⟨e.flipx, e.tx, e.xsize, e.sx, e.xzoom⟩

def verOf (e : SpriteEntry) : AxisEntry := ⟨e.flipy, e.ty, e.ysize, e.sy, e.yzoom⟩

/-- Where the destination box of an entry begins on the axis. -/
def boxStart (a : AxisMap) (v : AxisEntry) : Int := v.pos + a.anchor (a.unit * v.size) v.zoom

/-- The length of the destination box of an entry on the axis. -/
def boxLength (a : AxisMap) (v : AxisEntry) : Nat := a.extent (a.unit * v.size) v.zoom

/-- On the axis, place `d` of the box stands at screen coordinate `X` and shows graphics coordinate `g`. -/
def ShowsAt (a : AxisMap) (v : AxisEntry) (X : Nat) (g : Int) : Prop :=
  ∃ d < boxLength a v, (X : Int) = boxStart a v + d ∧ g = a.start v.tile + a.shown v.flip (a.unit * v.size) v.zoom d

/-- A sprite shows an index where both axes show the coordinates of an opaque graphics pixel that has it. -/
theorem shows_iff {m : BlitSampling} {transpen : Nat} {gfx : SprGfx} {e : SpriteEntry} {x y : Nat} {q : Half} :
    m.Shows transpen gfx e x y q ↔ ∃ px py, ShowsAt m.hor (horOf e) x px ∧ ShowsAt m.ver (verOf e) y py ∧
      (gfx e.code e.color px py).1 ≠ transpen ∧ (gfx e.code e.color px py).2 = q := by
  constructor
  · rintro ⟨dx, dy, dx_lt, dy_lt, x_eq, y_eq, opaque_there, index⟩
    exact ⟨_, _, ⟨dx, dx_lt, x_eq, rfl⟩, ⟨dy, dy_lt, y_eq, rfl⟩, opaque_there, index⟩
  · rintro ⟨_, _, ⟨dx, dx_lt, x_eq, rfl⟩, ⟨dy, dy_lt, y_eq, rfl⟩, opaque_there, index⟩
    exact ⟨dx, dy, dx_lt, dy_lt, x_eq, y_eq, opaque_there, index⟩

section
variable {a : AxisMap} {v : AxisEntry} {X X' : Nat} {g : Int}

/-- Every place of the box, and no other coordinate, shows something. -/
theorem exists_showsAt_iff : (∃ g, ShowsAt a v X g) ↔ boxStart a v ≤ X ∧ (X : Int) < boxStart a v + boxLength a v := by
  constructor
  · rintro ⟨_, d, d_lt, X_eq, -⟩
    omega
  · rintro ⟨start_le, lt_end⟩
    obtain ⟨d, d_eq⟩ := Int.eq_ofNat_of_zero_le (Int.sub_nonneg_of_le start_le)
    exact ⟨_, d, by omega, by omega, rfl⟩

/-- An axis that mirrors the graphics shows, flipped, what the mirrored graphics show unflipped (R123 item 4). -/
theorem showsAt_flip_of_mirrorsGraphics (scales : a.Scales) (zoom_pos : 0 < v.zoom) (mirrors : a.mirrorsBox = false) :
    ShowsAt a { v with flip := true } X g ↔
      ShowsAt a { v with flip := false } X (2 * a.start v.tile + (a.unit * v.size : Nat) - 1 - g) := by
  refine exists_congr fun d => and_congr_right fun d_lt => and_congr_right fun _ => ?_
  have source_lt := scales.source_lt (a.unit * v.size) v.zoom d zoom_pos d_lt
  simp only [AxisMap.shown, mirrors, Bool.false_eq_true, if_false, if_true]
  omega

/-- When a flip mirrors the box, the mirror image of a place shows, with the other flip, what the place shows. -/
theorem shown_not_of_mirrorsBox (mirrors : a.mirrorsBox = true) {n z d : Nat} (inside : d < a.extent n z) (flip : Bool) :
    a.shown (!flip) n z (a.extent n z - 1 - d) = a.shown flip n z d := by
  cases flip with
  | true => simp [AxisMap.shown, mirrors]
  | false =>
    have back : a.extent n z - 1 - (a.extent n z - 1 - d) = d := by omega
    simp [AxisMap.shown, mirrors, back]

/-- An axis that mirrors the box shows, with the other flip, the same coordinate at the mirror image in the box (R123 item 4). -/
theorem ShowsAt.mirrored (mirrors : a.mirrorsBox = true)
    (images : (X : Int) + X' = 2 * boxStart a v + boxLength a v - 1) (shows : ShowsAt a v X g) :
    ShowsAt a { v with flip := !v.flip } X' g := by
  obtain ⟨d, d_lt, X_eq, rfl⟩ := shows
  have image_lt : boxLength a v - 1 - d < boxLength a v := by omega
  have X'_eq : (X' : Int) = boxStart a v + (boxLength a v - 1 - d : Nat) := by omega
  refine ⟨boxLength a v - 1 - d, image_lt, X'_eq, ?_⟩
  rw [← shown_not_of_mirrorsBox mirrors d_lt]
  rfl

theorem showsAt_flip_of_mirrorsBox (mirrors : a.mirrorsBox = true)
    (images : (X : Int) + X' = 2 * boxStart a v + boxLength a v - 1) :
    ShowsAt a { v with flip := true } X g ↔ ShowsAt a { v with flip := false } X' g :=
  ⟨.mirrored (v := { v with flip := true }) mirrors images,
    .mirrored (v := { v with flip := false }) mirrors ((Int.add_comm _ _).trans images)⟩

end

/-! ## Both axes -/

section
variable {m : BlitSampling} {transpen : Nat} {gfx : SprGfx} {e : SpriteEntry} {x x' y y' : Nat} {q : Half}

theorem shows_flipx_of_mirrorsGraphics (scales : m.hor.Scales) (zoom_pos : 0 < e.xzoom) (mirrors : m.hor.mirrorsBox = false) :
    m.Shows transpen gfx { e with flipx := true } x y q ↔
      m.Shows transpen (fun code color px py => gfx code color (2 * m.hor.start e.tx + (m.width e : Nat) - 1 - px) py)
        { e with flipx := false } x y q := by
  have axis : ∀ px, ShowsAt m.hor (horOf { e with flipx := true }) x px ↔
      ShowsAt m.hor (horOf { e with flipx := false }) x (2 * m.hor.start e.tx + (m.width e : Nat) - 1 - px) := fun _ =>
    showsAt_flip_of_mirrorsGraphics (v := horOf e) scales zoom_pos mirrors
  rw [shows_iff, shows_iff, ← (Equiv.subLeft (2 * m.hor.start e.tx + (m.width e : Nat) - 1)).exists_congr_right]
  simp only [axis, Equiv.subLeft_apply, sub_sub_cancel]
  rfl

theorem shows_flipy_of_mirrorsGraphics (scales : m.ver.Scales) (zoom_pos : 0 < e.yzoom) (mirrors : m.ver.mirrorsBox = false) :
    m.Shows transpen gfx { e with flipy := true } x y q ↔
      m.Shows transpen (fun code color px py => gfx code color px (2 * m.ver.start e.ty + (m.height e : Nat) - 1 - py))
        { e with flipy := false } x y q := by
  have axis : ∀ py, ShowsAt m.ver (verOf { e with flipy := true }) y py ↔
      ShowsAt m.ver (verOf { e with flipy := false }) y (2 * m.ver.start e.ty + (m.height e : Nat) - 1 - py) := fun _ =>
    showsAt_flip_of_mirrorsGraphics (v := verOf e) scales zoom_pos mirrors
  rw [shows_iff, shows_iff]
  refine exists_congr fun px => ?_
  rw [← (Equiv.subLeft (2 * m.ver.start e.ty + (m.height e : Nat) - 1)).exists_congr_right]
  simp only [axis, Equiv.subLeft_apply, sub_sub_cancel]
  rfl

theorem shows_flipx_of_mirrorsBox (mirrors : m.hor.mirrorsBox = true)
    (images : (x : Int) + x' = 2 * boxStart m.hor (horOf e) + boxLength m.hor (horOf e) - 1) :
    m.Shows transpen gfx { e with flipx := true } x y q ↔ m.Shows transpen gfx { e with flipx := false } x' y q := by
  rw [shows_iff, shows_iff]
  exact exists_congr fun px => exists_congr fun py => and_congr_left' (showsAt_flip_of_mirrorsBox mirrors images)

theorem shows_flipy_of_mirrorsBox (mirrors : m.ver.mirrorsBox = true)
    (images : (y : Int) + y' = 2 * boxStart m.ver (verOf e) + boxLength m.ver (verOf e) - 1) :
    m.Shows transpen gfx { e with flipy := true } x y q ↔ m.Shows transpen gfx { e with flipy := false } x y' q := by
  rw [shows_iff, shows_iff]
  exact exists_congr fun px => exists_congr fun py =>
    and_congr_right' (and_congr_left' (showsAt_flip_of_mirrorsBox mirrors images))

/-- A sprite shows nothing outside its destination box. -/
theorem in_box_of_shows (shows : m.Shows transpen gfx e x y q) :
    (boxStart m.hor (horOf e) ≤ x ∧ (x : Int) < boxStart m.hor (horOf e) + boxLength m.hor (horOf e)) ∧
    (boxStart m.ver (verOf e) ≤ y ∧ (y : Int) < boxStart m.ver (verOf e) + boxLength m.ver (verOf e)) := by
  obtain ⟨px, py, hor, ver, -⟩ := shows_iff.1 shows
  exact ⟨exists_showsAt_iff.1 ⟨px, hor⟩, exists_showsAt_iff.1 ⟨py, ver⟩⟩

/-- A sprite of opaque graphics shows something at every place of its destination box, and nowhere else. -/
theorem exists_shows_iff_of_opaque (opaque_graphics : ∀ code color px py, (gfx code color px py).1 ≠ transpen) :
    (∃ q, m.Shows transpen gfx e x y q) ↔
      (boxStart m.hor (horOf e) ≤ x ∧ (x : Int) < boxStart m.hor (horOf e) + boxLength m.hor (horOf e)) ∧
      (boxStart m.ver (verOf e) ≤ y ∧ (y : Int) < boxStart m.ver (verOf e) + boxLength m.ver (verOf e)) := by
  constructor
  · rintro ⟨q, shows⟩
    exact in_box_of_shows shows
  · rintro ⟨hor, ver⟩
    obtain ⟨px, hor⟩ := exists_showsAt_iff.2 hor
    obtain ⟨py, ver⟩ := exists_showsAt_iff.2 ver
    exact ⟨_, shows_iff.2 ⟨px, py, hor, ver, opaque_graphics _ _ _ _, rfl⟩⟩

end

/-! ## Flips and zooms under every legal blit -/

/-- Settles O29: on each axis the sampling of the contract mirrors the graphics or the box. -/
theorem flipMirrorsSprite : Obligations.FlipMirrorsSprite := by
  intro c legal e xzoom_pos yzoom_pos
  obtain ⟨m, hor_scales, ver_scales, blit⟩ := legal.blit.sampled
  constructor
  · cases mirrors : m.hor.mirrorsBox with
    | false =>
      refine .inl ⟨2 * m.hor.start e.tx + (m.width e : Nat) - 1, fun gfx k ⟨x, y, q⟩ => ?_⟩
      simp only [blit, xzoom_pos, yzoom_pos]
      exact and_congr_right' (shows_flipx_of_mirrorsGraphics hor_scales xzoom_pos mirrors)
    | true =>
      refine .inr ⟨m.hor.anchor (m.width e) e.xzoom, m.hor.extent (m.width e) e.xzoom, fun gfx k sx =>
        ⟨fun flip ⟨x, y, q⟩ drawn => ?_, fun x x' y q held held' images => ?_⟩⟩
      · simp only [blit, xzoom_pos, yzoom_pos] at drawn
        exact (in_box_of_shows drawn.2).1
      · simp only [blit, xzoom_pos, yzoom_pos]
        exact and_congr (iff_of_true held held') (shows_flipx_of_mirrorsBox (e := { e with sx := sx }) mirrors images)
  · cases mirrors : m.ver.mirrorsBox with
    | false =>
      refine .inl ⟨2 * m.ver.start e.ty + (m.height e : Nat) - 1, fun gfx k ⟨x, y, q⟩ => ?_⟩
      simp only [blit, xzoom_pos, yzoom_pos]
      exact and_congr_right' (shows_flipy_of_mirrorsGraphics ver_scales yzoom_pos mirrors)
    | true =>
      refine .inr ⟨m.ver.anchor (m.height e) e.yzoom, m.ver.extent (m.height e) e.yzoom, fun gfx k sy =>
        ⟨fun flip ⟨x, y, q⟩ drawn => ?_, fun x y y' q held held' images => ?_⟩⟩
      · simp only [blit, xzoom_pos, yzoom_pos] at drawn
        exact (in_box_of_shows drawn.2).2
      · simp only [blit, xzoom_pos, yzoom_pos]
        exact and_congr (iff_of_true held held') (shows_flipy_of_mirrorsBox (e := { e with sy := sy }) mirrors images)

/-- A box of an axis that scales is as long as the scaled sprite, to within a pixel (R123 item 5). -/
theorem abs_extent_sub_lt_one {a : AxisMap} (scales : a.Scales) (size : Nat) {z : Nat} (zoom_pos : 0 < z) :
    |(a.extent (a.unit * size) z : Rat) - a.unit * size * a.scale z| < 1 := by
  obtain ⟨not_longer, not_shorter⟩ := scales.extent_near (a.unit * size) z zoom_pos
  push_cast at not_longer not_shorter
  rw [abs_sub_lt_iff]
  constructor <;> linarith only [not_longer, not_shorter]

/-- Settles O30: unit, scale, box and offset of each axis are those of the contract's sampling. -/
theorem zoomScalesSprite : Obligations.ZoomScalesSprite := by
  intro c legal follows
  obtain ⟨m, hor_scales, ver_scales, blit⟩ := legal.blit.sampled
  have axis_follows : ∀ {a : AxisMap}, a.Scales → follows a.scale (fun size z => a.extent (a.unit * size) z) a.unit :=
    fun scales => ⟨scales.unit_pos, scales.scale_pos, scales.scale_strict, fun size _ => abs_extent_sub_lt_one scales size⟩
  refine ⟨m.hor.unit, m.ver.unit, m.hor.scale, m.ver.scale, _, _, fun size z => m.hor.anchor (m.hor.unit * size) z,
    fun size z => m.ver.anchor (m.ver.unit * size) z, axis_follows hor_scales, axis_follows ver_scales, ?_⟩
  intro gfx e k x y opaque_graphics xzoom_pos yzoom_pos held left top
  have drawn_iff_shows : ∀ q, ⟨x, y, q⟩ ∈ c.sprBlit gfx e k ↔ m.Shows c.sprTranspen gfx e x y q := fun q =>
    (blit gfx e k x y q xzoom_pos yzoom_pos).trans (and_iff_right held)
  simp only [drawn_iff_shows]
  exact (exists_shows_iff_of_opaque opaque_graphics).trans and_assoc

end Sys2Proof.Proofs
end

section
/-!
The reference blit (R124) meets the contract of a blit (R123): it is a blit of a sampling that scales on both axes.
-/
namespace Sys2Proof.Proofs

open Sys2Proof.Config Sys2Proof.Machine Sys2Proof.Safety Sys2Proof.Laws

/-! ## The sampling of the reference blit -/

/-- An axis of the reference blit: nearest-neighbour with six fraction bits of zoom, the graphics mirrored by a flip (R124). -/
def axisRef : AxisMap where
  start := fun t => t
  unit := 1
  anchor := fun _ _ => 0
  extent := blitSteps
  source := fun _ z d => d * z / 64
  mirrorsBox := false
  scale := fun z => 64 / z

/-- The sampling of the reference blit. -/
def samplingRef : BlitSampling := ⟨axisRef, axisRef⟩

/-- The loop of R124 runs while the step times the zoom is below the size in 64ths. -/
theorem lt_blitSteps_iff {size z d : Nat} (zoom_pos : 0 < z) : d < blitSteps size z ↔ d * z < size * 64 := by
  rw [blitSteps, ← Nat.succ_le_iff, Nat.le_div_iff_mul_le zoom_pos, Nat.succ_mul]
  omega

/-- The number of steps is the size in 64ths over the zoom, rounded up. -/
theorem blitSteps_mul_bounds {size z : Nat} (zoom_pos : 0 < z) :
    size * 64 ≤ blitSteps size z * z ∧ blitSteps size z * z < size * 64 + z := by
  refine ⟨Nat.not_lt.1 (mt (lt_blitSteps_iff zoom_pos).2 (Nat.lt_irrefl _)), ?_⟩
  cases steps : blitSteps size z with
  | zero => omega
  | succ d =>
    have last : d * z < size * 64 := (lt_blitSteps_iff zoom_pos).1 (by omega)
    rw [Nat.succ_mul]
    omega

theorem axisRef_scales : axisRef.Scales where
  unit_pos := Nat.one_pos
  scale_pos z zoom_pos := div_pos (by norm_num) (Nat.cast_pos.2 zoom_pos)
  scale_strict := .inr fun z z' zoom_pos smaller =>
    div_lt_div_of_pos_left (by norm_num) (Nat.cast_pos.2 zoom_pos) (Nat.cast_lt.2 smaller)
  extent_near n z zoom_pos := by
    have z_pos : (0 : Rat) < z := Nat.cast_pos.2 zoom_pos
    obtain ⟨enough, not_more⟩ := blitSteps_mul_bounds (size := n) zoom_pos
    have enough : (n * 64 : Rat) ≤ blitSteps n z * z := by exact_mod_cast enough
    have not_more : (blitSteps n z * z : Rat) < n * 64 + z := by exact_mod_cast not_more
    simp only [axisRef]
    rw [← mul_div_assoc, div_add_one z_pos.ne', lt_div_iff₀ z_pos, div_lt_iff₀ z_pos, add_mul]
    constructor <;> linarith only [enough, not_more, z_pos]
  source_lt n z d zoom_pos inside := by
    have in_sprite : d * z < n * 64 := (lt_blitSteps_iff zoom_pos).1 inside
    exact Nat.div_lt_of_lt_mul (by omega)
  source_mono n z d d' _ le _ := Nat.div_le_div_right (Nat.mul_le_mul_right z le)
  source_near n z d zoom_pos _ := by
    have z_pos : (0 : Rat) < z := Nat.cast_pos.2 zoom_pos
    have rounded : d * z / 64 * 64 ≤ d * z ∧ d * z < (d * z / 64 + 1) * 64 := by omega
    have down : ((d * z / 64 : Nat) * 64 : Rat) ≤ d * z := by exact_mod_cast rounded.1
    have up : (d * z : Rat) < ((d * z / 64 : Nat) + 1) * 64 := by exact_mod_cast rounded.2
    simp only [axisRef]
    rw [← mul_div_assoc, ← mul_div_assoc, div_add_one z_pos.ne', lt_div_iff₀ z_pos, div_lt_iff₀ z_pos, add_mul]
    constructor <;> linarith only [down, up, z_pos]

/-! ## The pixels of the reference blit -/

theorem axisRef_shown (flip : Bool) (n z d : Nat) : axisRef.shown flip n z d = blitSource flip n z d := by
  cases flip <;> rfl

section
variable {transpen : Nat} {gfx : SprGfx} {e : SpriteEntry} {k : Clip} {p : SprPixel}

theorem samplingRef_left (e : SpriteEntry) : samplingRef.left e = e.sx := Int.add_zero _

theorem samplingRef_top (e : SpriteEntry) : samplingRef.top e = e.sy := Int.add_zero _

theorem samplingRef_width (e : SpriteEntry) : samplingRef.width e = e.xsize := Nat.one_mul _

theorem samplingRef_height (e : SpriteEntry) : samplingRef.height e = e.ysize := Nat.one_mul _

/-- The graphics pixel that R124 reads at a step is the one its sampling shows. -/
theorem samplingRef_pixel (gfx : SprGfx) (e : SpriteEntry) (dx dy : Nat) : samplingRef.pixel gfx e dx dy =
    gfx e.code e.color ((e.tx + blitSource e.flipx e.xsize e.xzoom dx : Nat))
      ((e.ty + blitSource e.flipy e.ysize e.yzoom dy : Nat)) := by
  rw [BlitSampling.pixel, samplingRef_width, samplingRef_height, Nat.cast_add, Nat.cast_add, ← axisRef_shown, ← axisRef_shown]
  rfl

/-- What the two loops of R124 emit at a step: the place of the step when the clip holds it, with an opaque pixel's index. -/
theorem blitPixelRef_eq_some_iff {dx dy : Nat} : blitPixelRef transpen gfx e k dx dy = some p ↔
    k.Holds p.x p.y ∧ (p.x : Int) = e.sx + dx ∧ (p.y : Int) = e.sy + dy ∧
      (samplingRef.pixel gfx e dx dy).1 ≠ transpen ∧ (samplingRef.pixel gfx e dx dy).2 = p.palidx := by
  rw [samplingRef_pixel]
  simp only [blitPixelRef, Option.ite_none_right_eq_some, Option.ite_none_left_eq_some, Option.some.injEq]
  constructor
  · rintro ⟨held, opaque_there, rfl⟩
    refine ⟨?_, ?_, ?_, opaque_there, rfl⟩ <;> dsimp only <;> omega
  · rintro ⟨held, x_eq, y_eq, opaque_there, index⟩
    refine ⟨by omega, opaque_there, ?_⟩
    rw [← x_eq, ← y_eq, index, Int.toNat_natCast, Int.toNat_natCast]

/-- The reference blit as one loop over its steps. -/
theorem blitRef_eq (transpen : Nat) (gfx : SprGfx) (e : SpriteEntry) (k : Clip) : blitRef transpen gfx e k =
    (List.range (blitSteps e.ysize e.yzoom) ×ˢ List.range (blitSteps e.xsize e.xzoom)).filterMap
      fun d => blitPixelRef transpen gfx e k d.2 d.1 := by
  change _ = (List.product _ _).filterMap _
  simp only [blitRef, List.product, List.filterMap_flatMap, List.filterMap_map]
  rfl

/-- The reference blit draws the places of the clip at which its sampling shows something. -/
theorem mem_blitRef_iff :
    p ∈ blitRef transpen gfx e k ↔ k.Holds p.x p.y ∧ samplingRef.Shows transpen gfx e p.x p.y p.palidx := by
  simp only [blitRef_eq, List.mem_filterMap, Prod.exists, List.mem_product, List.mem_range, blitPixelRef_eq_some_iff,
    BlitSampling.Shows, samplingRef_left, samplingRef_top, samplingRef_width, samplingRef_height]
  constructor
  · rintro ⟨dy, dx, ⟨dy_lt, dx_lt⟩, held, x_eq, y_eq, opaque_there⟩
    exact ⟨held, dx, dy, dx_lt, dy_lt, x_eq, y_eq, opaque_there⟩
  · rintro ⟨held, dx, dy, dx_lt, dy_lt, x_eq, y_eq, opaque_there⟩
    exact ⟨dy, dx, ⟨dy_lt, dx_lt⟩, held, x_eq, y_eq, opaque_there⟩

/-- The reference blit draws a place once: two steps at one place are one step. -/
theorem nodup_blitRef_places (transpen : Nat) (gfx : SprGfx) (e : SpriteEntry) (k : Clip) :
    ((blitRef transpen gfx e k).map fun p => (p.x, p.y)).Nodup := by
  rw [blitRef_eq, List.map_filterMap]
  refine (List.nodup_range.product List.nodup_range).filterMap fun d d' place at_d at_d' => ?_
  simp only [Option.mem_def, Option.map_eq_some_iff, blitPixelRef_eq_some_iff] at at_d at_d'
  obtain ⟨p, ⟨-, x_eq, y_eq, -⟩, rfl⟩ := at_d
  obtain ⟨p', ⟨-, x'_eq, y'_eq, -⟩, same_place⟩ := at_d'
  obtain ⟨same_x, same_y⟩ := Prod.mk.inj same_place
  exact Prod.ext (by omega) (by omega)

end

/-- Settles O31: the first two items and the sampling are `mem_blitRef_iff` read three ways. -/
theorem referenceBlitMeetsContract : Obligations.ReferenceBlitMeetsContract := by
  intro c reference
  refine ⟨fun gfx e k p drawn => ?_, fun gfx e k p drawn => ?_, fun gfx e k => ?_,
    samplingRef, axisRef_scales, axisRef_scales, fun gfx e k x y q _ _ => ?_⟩
  · rw [reference, mem_blitRef_iff] at drawn
    exact drawn.1
  · rw [reference, mem_blitRef_iff, shows_iff] at drawn
    obtain ⟨-, px, py, -, -, opaque_there⟩ := drawn
    exact ⟨px, py, opaque_there⟩
  · rw [reference]
    exact nodup_blitRef_places c.sprTranspen gfx e k
  · rw [reference]
    exact mem_blitRef_iff

end Sys2Proof.Proofs
end

section
/-!
The CRTC writes: each by its register, what a recomputation leaves behind, and the source's example of four width writes (R128 to R139,
R141, R179).
-/
namespace Sys2Proof.Proofs

open Sys2Proof.Config Sys2Proof.Machine Sys2Proof.Safety Sys2Proof.Laws

/-! ## The writes -/

section
variable {data : Word} {lanes : Lanes}

/-- Each listed width or control write is the CRTC write of its register (R60, R133 to R137). -/
theorem exec_geometryWrites {p : Instr × CrtcReg} (listed : p ∈ geometryWrites data lanes) (s : State) :
    exec p.1 s = .next (crtcWrite cfg p.2 data lanes s) := by
  revert p
  simp only [geometryWrites, List.forall_mem_cons]
  exact ⟨rfl, rfl, rfl, rfl, rfl, List.forall_mem_nil _⟩

/-- Each listed porch write is the CRTC write of its register (R60, R138, R139). -/
theorem exec_porchWrites {p : Instr × CrtcReg × Nat} (listed : p ∈ porchWrites data lanes) (s : State) :
    exec p.1 s = .next (crtcWrite cfg p.2.1 data lanes s) := by
  revert p
  simp only [porchWrites, List.forall_mem_cons]
  exact ⟨rfl, rfl, List.forall_mem_nil _⟩

/-- The merge of a 16-bit register, by the low half of the word's lane mask (R44, R132). -/
theorem mergeLanes16_lanes16 (old : Half) (data : Word) (lanes : Lanes) :
    mergeLanes16 old data (lanes16 lanes) =
      (old &&& ~~~(lanemask lanes).extractLsb' 0 16) ||| (data.extractLsb' 0 16 &&& (lanemask lanes).extractLsb' 0 16) := by
  rw [mergeLanes16, lanemask16_lanes16]

/-- Once the register is written, `CRTC_CTRL` propagates the flip and recomputes, and a width recomputes (R132). -/
theorem crtcEffect_geometry {p : Instr × CrtcReg} (listed : p ∈ geometryWrites data lanes) (c : Cfg) (u : State) :
    crtcEffect c p.2 u = recompute c (if p.2 = .ctrl then propagateFlip u else u) := by
  revert p
  simp only [geometryWrites, List.forall_mem_cons]
  exact ⟨rfl, rfl, rfl, rfl, rfl, List.forall_mem_nil _⟩

/-- Once the register is written, a porch is logged with its offset and new value (R132, R138, R139). -/
theorem crtcEffect_porch {p : Instr × CrtcReg × Nat} (listed : p ∈ porchWrites data lanes) (c : Cfg) (u : State) :
    crtcEffect c p.2.1 u = u.appendDiag (.porch p.2.2 (u.crtc.get p.2.1)) := by
  revert p
  simp only [porchWrites, List.forall_mem_cons]
  exact ⟨rfl, rfl, List.forall_mem_nil _⟩

end

/-- Settles O13: a write without lanes 0 and 1 is skipped; else `crtcEffect` acts on the merged register. -/
theorem crtcWrites : Obligations.CrtcWrites := by
  intro data lanes s merged
  have merges : ∀ old, mergeLanes16 old data (lanes16 lanes) = merged old := fun old => mergeLanes16_lanes16 old data lanes
  refine ⟨fun p listed => ?_, fun p listed => ?_⟩
  · rw [exec_geometryWrites listed, crtcWrite, merges, crtcEffect_geometry listed]
    rfl
  · rw [exec_porchWrites listed, crtcWrite, merges, crtcEffect_porch listed, setCrtc_crtc, crtc_get_set_same]
    rfl

/-! ## The recomputation -/

/-- The geometry of the registers, in integers: widths clamped, totals blank plus display (R129). -/
theorem natCast_crtcGeometry (r : CrtcRegs) : let g := crtcGeometry r
    (g.visW : Int) = max (crtcWidth r.hdisp) 1 ∧ (g.visH : Int) = max (crtcWidth r.vdisp) 1 ∧
    (g.hTotal : Int) = max (crtcWidth r.hblank) 0 + max (crtcWidth r.hdisp) 1 ∧
    (g.vTotal : Int) = max (crtcWidth r.vblank) 0 + max (crtcWidth r.vdisp) 1 := by
  simp only [crtcGeometry]
  omega

/-- When a recomputation logs the clamp (R179). -/
theorem crtcMalformed_iff (r : CrtcRegs) : crtcMalformed r = true ↔
    crtcWidth r.hdisp < 1 ∨ crtcWidth r.vdisp < 1 ∨ crtcWidth r.hblank < 0 ∨ crtcWidth r.vblank < 0 := by
  simp only [crtcMalformed, Bool.or_eq_true, decide_eq_true_eq, or_assoc]

/-- Settles O14: `recompute_eq`, with the geometry in integers and the refresh rate as a quotient. -/
theorem recomputeGeometry : Obligations.RecomputeGeometry := by
  intro c s HB HD VB VD t
  have computed : t = _ := recompute_eq c s
  obtain ⟨visW, visH, hTotal, vTotal⟩ := natCast_crtcGeometry s.crtc
  have quotient := refreshOf_eq (pixelClock c s.crtc) (crtcGeometry s.crtc)
  rw [Nat.cast_mul] at quotient
  rw [computed]
  refine ⟨rfl, visW, visH, hTotal, vTotal, quotient, ?_⟩
  simp only [crtcMalformed_iff]
  rfl

/-! ## The source's example -/

/-- A width write with every lane replaces the register and recomputes (R132). -/
theorem crtcWrite_width_full {data : Word} {p : Instr × CrtcReg} (listed : p ∈ geometryWrites data 0xF) (width : p.2 ≠ .ctrl)
    (c : Cfg) (s : State) : crtcWrite c p.2 data 0xF s = recompute c (s.setCrtc p.2 (data.extractLsb' 0 16)) := by
  have both_lanes : lanes16 0xF = 3 := by decide
  have some_lane : (3 : BitVec 2) ≠ 0 := by decide
  rw [crtcWrite, both_lanes, if_neg some_lane, mergeLanes16_full, crtcEffect_geometry listed, if_neg width]

@[simp] theorem recompute_crtc (c : Cfg) (s : State) : (recompute c s).crtc = s.crtc := by rw [recompute_eq]

@[simp] theorem recompute_stream (c : Cfg) (s : State) : (recompute c s).stream = s.stream := by rw [recompute_eq]

/-- A run that begins with the word of a width write (R132, R204). -/
theorem runWords_width {s : State} (none_delivered : s.stream = []) {w : OpWord} {data : Word} {k : CrtcReg}
    (listed : (decode w, k) ∈ geometryWrites data 0xF) (width : k ≠ .ctrl) (ws : List OpWord) :
    runWords s (w :: ws) = runWords (recompute cfg (s.setCrtc k (data.extractLsb' 0 16))) ws := by
  refine runWords_of_exec none_delivered ?_ ws
  rw [exec_geometryWrites listed, crtcWrite_width_full listed width]

/-- The registers of the example (R141). -/
def exampleRegs (r : CrtcRegs) : CrtcRegs := { r with hblank := 0x0FC0, hdisp := 0x0EC0, vblank := 0x0FD9, vdisp := 0x0F20 }

/-- The geometry of the example's registers, whatever the other three hold (R141). -/
theorem crtcGeometry_exampleRegs (r : CrtcRegs) : crtcGeometry (exampleRegs r) = ⟨320, 224, 384, 263⟩ := by
  have hblank : crtcWidth 0x0FC0 = 64 := by decide
  have hdisp : crtcWidth 0x0EC0 = 320 := by decide
  have vblank : crtcWidth 0x0FD9 = 39 := by decide
  have vdisp : crtcWidth 0x0F20 = 224 := by decide
  simp only [crtcGeometry, exampleRegs, hblank, hdisp, vblank, vdisp]
  decide

/-- Settles O16: the last of the four words recomputes from the registers that all four have written. -/
theorem sourceGeometryExample : Obligations.SourceGeometryExample := by
  intro s none_delivered
  have hblank : (decode 0x19F0000100000FC0, .hblank) ∈ geometryWrites 0xFC0 0xF := by decide
  have hdisp : (decode 0x19F0000200000EC0, .hdisp) ∈ geometryWrites 0xEC0 0xF := by decide
  have vblank : (decode 0x19F0000300000FD9, .vblank) ∈ geometryWrites 0xFD9 0xF := by decide
  have vdisp : (decode 0x19F0000400000F20, .vdisp) ∈ geometryWrites 0xF20 0xF := by decide
  rw [runWords_width none_delivered hblank (by decide), runWords_width (by simp [none_delivered]) hdisp (by decide),
    runWords_width (by simp [none_delivered]) vblank (by decide), runWords_width (by simp [none_delivered]) vdisp (by decide),
    runWords_nil, deliver_nil]
  generalize last : State.setCrtc _ .vdisp _ = u
  have regs : u.crtc = exampleRegs s.crtc := by
    rw [← last]
    simp only [setCrtc_crtc, recompute_crtc]
    rfl
  have geometry : crtcGeometry u.crtc = ⟨320, 224, 384, 263⟩ := by rw [regs, crtcGeometry_exampleRegs]
  have period : 384 * 263 = 100992 := by norm_num
  refine ⟨_, rfl, ?_⟩
  rw [recompute_eq, geometry, refreshOf_eq, period, regs]
  exact ⟨rfl, period, rfl, rfl⟩

end Sys2Proof.Proofs
end

section
/-!
Slots, draw order and mask (R146 to R148): a slot counts increments, the order lists the candidates of each slot in turn, and a bit of
the mask is a test. With an all-zero `PRIRAM` the slots are those of `slotOnZero` and no test holds (R153, R154).
-/
namespace Sys2Proof.Proofs

open Sys2Proof.Config Sys2Proof.Machine Sys2Proof.Safety Sys2Proof.Laws

/-! ## The slots -/

/-- The increments of a check: those of a hit, or those of a miss (R146). -/
def increments (c : Cfg) (m : Storage) (k : SlotCheck) : List Counter := if slotHit c m k then k.onMatch else k.onMiss

theorem increments_eq (c : Cfg) (m : Storage) (k : SlotCheck) : increments c m k =
    if (memRead c m .priram k.cell).extractLsb' 0 16 &&& k.cmpmask = k.sentinel then k.onMatch else k.onMiss :=
  if_congr beq_iff_eq rfl rfl

/-- A list of increments adds to each counter the number of times it occurs. -/
theorem foldl_bump (is : List Counter) (t : Slots) :
    is.foldl bump t = ⟨t.asc + is.count .asc, t.scrl + is.count .scrl, t.rot + is.count .rot⟩ := by
  induction is generalizing t with
  | nil => rfl
  | cons i is ih =>
    rw [List.foldl_cons, ih]
    cases i <;> simp [bump, Nat.add_assoc, Nat.add_comm 1]

theorem resolveSlots_eq (c : Cfg) (m : Storage) : let is := c.slotProgram.flatMap (increments c m)
    resolveSlots c m = ⟨is.count .asc, is.count .scrl, is.count .rot⟩ := by
  intro is
  have one_fold : resolveSlots c m = is.foldl bump ⟨0, 0, 0⟩ := List.foldl_flatMap.symm
  rw [one_fold, foldl_bump]
  simp only [Nat.zero_add]

/-- Settles O42. -/
theorem slotsCountIncrements : Obligations.SlotsCountIncrements := by
  intro c m lists
  have same_lists : increments c m = lists := funext (increments_eq c m)
  rw [resolveSlots_eq, same_lists]

/-! ## The draw order -/

section
variable {α : Type} [BEq α] [LawfulBEq α] {l : List α}

/-- In a list without repetition the elements stand in the order of their first positions. -/
theorem pairwise_idxOf_lt (nodup : l.Nodup) : l.Pairwise fun a b => l.idxOf a < l.idxOf b :=
  List.pairwise_iff_getElem.2 fun i j hi hj lt => by rwa [nodup.idxOf_getElem i hi, nodup.idxOf_getElem j hj]

/-- The first element of a list with a property is the one at the least position. -/
theorem mem_take_one_filter_iff (nodup : l.Nodup) (p : α → Bool) {e : α} (e_mem : e ∈ l) (e_holds : p e = true) :
    e ∈ (l.filter p).take 1 ↔ ∀ e' ∈ l, p e' = true → l.idxOf e ≤ l.idxOf e' := by
  have sorted := (pairwise_idxOf_lt nodup).filter p
  have e_found : e ∈ l.filter p := List.mem_filter.2 ⟨e_mem, e_holds⟩
  cases found : l.filter p with
  | nil => simp [found] at e_found
  | cons first others =>
    rw [found] at sorted e_found
    obtain ⟨first_lt, -⟩ := List.pairwise_cons.1 sorted
    have in_list : ∀ e', e' ∈ l ∧ p e' = true ↔ e' = first ∨ e' ∈ others := fun e' => by
      rw [← List.mem_filter, found, List.mem_cons]
    rw [List.take_succ_cons, List.take_zero, List.mem_singleton]
    constructor
    · rintro rfl e' e'_mem e'_holds
      rcases (in_list e').1 ⟨e'_mem, e'_holds⟩ with rfl | later
      · exact Nat.le_refl _
      · exact (first_lt e' later).le
    · intro least
      obtain ⟨first_mem, first_holds⟩ := (in_list first).2 (.inl rfl)
      exact (List.mem_cons.1 e_found).resolve_right fun later =>
        absurd (first_lt e later) (Nat.not_lt.2 (least first first_mem first_holds))

end

section
variable (c : Cfg) (r : LayerRegs) (t : Slots)

theorem backgroundLayer_ne_tx : backgroundLayer r ≠ .tx := by
  unfold backgroundLayer
  split <;> exact ScrollLayer.noConfusion

theorem nodup_slotCandidates : (slotCandidates c r t).Nodup := by simp [slotCandidates, backgroundLayer_ne_tx]

/-- What a slot draws are candidates with its value, in the order of the candidates (R147). -/
theorem slotLayers_sublist (v : Nat) : (slotLayers c r t v).Sublist ((slotCandidates c r t).filter fun e => e.2.1 == v) := by
  unfold slotLayers
  cases c.slotTieMode with
  | drawAll => exact List.Sublist.refl _
  | firstOnly => exact List.take_sublist _ _

variable {c r t}

theorem of_mem_slotLayers {v : Nat} {e : DrawTarget × Nat × BitVec 3} (drawn : e ∈ slotLayers c r t v) :
    e ∈ slotCandidates c r t ∧ e.2.1 = v := by
  obtain ⟨candidate, slot⟩ := List.mem_filter.1 ((slotLayers_sublist c r t v).subset drawn)
  exact ⟨candidate, beq_iff_eq.1 slot⟩

/-- A layer is drawn when its slot is at most 3 and draws it. -/
theorem mem_drawOrder_iff {e : DrawTarget × Nat × BitVec 3} :
    e ∈ drawOrder c r t ↔ e.2.1 ≤ 3 ∧ e ∈ slotLayers c r t e.2.1 := by
  have slots : ∀ v, v ∈ [0, 1, 2, 3] ↔ v ≤ 3 := fun v => by
    simp only [List.mem_cons, List.not_mem_nil, or_false]
    omega
  simp only [drawOrder, List.mem_flatMap, slots]
  constructor
  · rintro ⟨v, v_le, drawn⟩
    obtain ⟨-, rfl⟩ := of_mem_slotLayers drawn
    exact ⟨v_le, drawn⟩
  · exact fun drawn => ⟨e.2.1, drawn⟩

/-- Before another in the draw order: in a lower slot, or in the same one and before it among the candidates (R147). -/
def DrawnBefore (c : Cfg) (r : LayerRegs) (t : Slots) (a b : DrawTarget × Nat × BitVec 3) : Prop :=
  a.2.1 < b.2.1 ∨ a.2.1 = b.2.1 ∧ (slotCandidates c r t).idxOf a < (slotCandidates c r t).idxOf b

variable (c r t) in
theorem pairwise_drawOrder : (drawOrder c r t).Pairwise (DrawnBefore c r t) := by
  refine List.pairwise_flatMap.2 ⟨fun v _ => ?_, ?_⟩
  · have sorted := ((pairwise_idxOf_lt (nodup_slotCandidates c r t)).filter _).sublist (slotLayers_sublist c r t v)
    refine sorted.imp_of_mem fun {a b} ha hb before => .inr ⟨?_, before⟩
    rw [(of_mem_slotLayers ha).2, (of_mem_slotLayers hb).2]
  · have rising : [0, 1, 2, 3].Pairwise (· < ·) := by decide
    refine rising.imp fun {v w} v_lt a ha b hb => .inl ?_
    rwa [(of_mem_slotLayers ha).2, (of_mem_slotLayers hb).2]

theorem mem_drawOrder_of_drawAll (all : c.slotTieMode = .drawAll) {e : DrawTarget × Nat × BitVec 3}
    (candidate : e ∈ slotCandidates c r t) (slot : e.2.1 ≤ 3) : e ∈ drawOrder c r t := by
  refine mem_drawOrder_iff.2 ⟨slot, ?_⟩
  simp only [slotLayers, all]
  exact List.mem_filter.2 ⟨candidate, beq_self_eq_true _⟩

theorem mem_drawOrder_iff_of_firstOnly (first : c.slotTieMode = .firstOnly) {e : DrawTarget × Nat × BitVec 3}
    (candidate : e ∈ slotCandidates c r t) (slot : e.2.1 ≤ 3) : e ∈ drawOrder c r t ↔
      ∀ e' ∈ slotCandidates c r t, e'.2.1 = e.2.1 → (slotCandidates c r t).idxOf e ≤ (slotCandidates c r t).idxOf e' := by
  rw [mem_drawOrder_iff, and_iff_right slot]
  simp only [slotLayers, first]
  rw [mem_take_one_filter_iff (nodup_slotCandidates c r t) (fun e' => e'.2.1 == e.2.1) candidate (beq_self_eq_true _)]
  simp only [beq_iff_eq]

end

/-- Settles O43: the listed candidates are `slotCandidates`. -/
theorem drawOrderIsSlotOrder : Obligations.DrawOrderIsSlotOrder := fun c r t =>
  ⟨fun _ drawn =>
      have ⟨slot, in_slot⟩ := mem_drawOrder_iff.1 drawn
      ⟨(of_mem_slotLayers in_slot).1, slot⟩,
    pairwise_drawOrder c r t,
    fun all _ candidate slot => mem_drawOrder_of_drawAll all candidate slot,
    fun first _ candidate slot => mem_drawOrder_iff_of_firstOnly first candidate slot⟩

/-! ## The mask -/

/-- Each round of the loop over the tests touches the bit of its own test only. -/
theorem getLsbD_pixelMask (c : Cfg) (m : Storage) (sp : Nat) (i : Fin 8) :
    (pixelMask c m sp).getLsbD i.val = maskTest c m sp i := by
  have bit : ∀ j : Fin 8, (1#8 <<< j.val).getLsbD i.val = decide (j = i) := by decide +revert
  have loop := foldl_at (fun acc j => if maskTest c m sp j then acc ||| (1#8 <<< j.val) else acc)
    (fun mask : BitVec 8 => mask.getLsbD i.val) (fun b => b || maskTest c m sp i) i (List.finRange 8) 0
    (List.nodup_finRange 8)
    (fun acc j _ other => by
      split
      · rw [BitVec.getLsbD_or, bit, decide_eq_false other, Bool.or_false]
      · rfl)
    (fun acc _ => by
      split
      next holds => rw [BitVec.getLsbD_or, bit, decide_eq_true rfl, holds]
      next fails => rw [Bool.eq_false_iff.2 fails, Bool.or_false])
  rw [if_pos (List.mem_finRange i)] at loop
  rw [pixelMask, loop]
  simp

/-- Settles O41. -/
theorem maskBitIsTest : Obligations.MaskBitIsTest := fun c m sp i => by
  rw [getLsbD_pixelMask]
  exact Bool.eq_iff_iff.2 (by simp [maskTest, priHalf, lowHalf])

/-! ## An all-zero priority memory -/

/-- Every read of priority memory gives 0. -/
def ZeroPriority (c : Cfg) (m : Storage) : Prop := ∀ i, priHalf c m i = 0#16

/-- It is enough that the words of the space are 0, since a read is reduced to one of them (R40). -/
theorem zeroPriority_of_words {c : Cfg} (legal : c.Legal) {m : Storage} (zero : ∀ i, i < c.priWords → wordAt c m .priram i = 0) :
    ZeroPriority c m := fun i => by
  have word : memRead c m .priram i = 0 := zero _ (Nat.mod_lt i legal.priWords_pos)
  rw [priHalf, word]
  rfl

section
variable {c : Cfg} {m : Storage} (zero : ZeroPriority c m)
include zero

/-- A check hits exactly when its sentinel is 0. -/
theorem slotHit_of_zero (k : SlotCheck) : slotHit c m k = true ↔ k.sentinel = 0 := by
  rw [slotHit, zero, BitVec.zero_and, beq_iff_eq]
  exact eq_comm

theorem resolveSlots_of_zero : resolveSlots c m = ⟨c.slotOnZero .asc, c.slotOnZero .scrl, c.slotOnZero .rot⟩ := by
  have counted : ∀ n, (c.slotProgram.flatMap (increments c m)).count n = c.slotOnZero n := fun n => by
    simp only [List.count_flatMap, Cfg.slotOnZero, Function.comp_def, increments, slotHit_of_zero zero]
  rw [resolveSlots_eq]
  simp only [counted]

theorem pixelMask_of_zero (sp : Nat) : pixelMask c m sp = 0 := by
  refine BitVec.eq_of_getLsbD_eq fun i i_lt => ?_
  rw [getLsbD_pixelMask c m sp ⟨i, i_lt⟩, maskTest, zero, BitVec.zero_and]
  simp

end

/-! ## The reference configuration -/

theorem cfgRef_legal : cfgRef.Legal where
  cols_pos := fun _ => Nat.one_pos
  rows_pos := fun _ => Nat.one_pos
  tw_pos := fun _ => Nat.one_pos
  th_pos := fun _ => Nat.one_pos
  tags_nonzero := by decide
  tags_distinct := by decide
  colorBank_eq := fun _ => rfl
  transpen_eq := fun _ => rfl
  sprTranspen_eq := rfl
  rozFracBits_eq := rfl
  palEntries_eq := rfl
  placeholder_eq := rfl
  blit := referenceBlitMeetsContract cfgRef rfl
  priWords_pos := by decide
  sprEntries_pos := by decide
  slot_three := rfl
  slot_cells := by decide
  lut_masks := ⟨[0, 1, 2], by decide, by decide, fun m t handled => by
    simp only [cfgRef, priLutRef] at handled
    grind⟩
  lut_blend := fun m t f blends => by
    simp only [cfgRef, priLutRef] at blends ⊢
    grind
  blendKeep_le := by decide
  lut_zero := by decide
  slot_zero := by decide
  slot_zero_tie := by decide
  default_pos := by decide
  out_pos := by decide

/-- Settles O32. -/
theorem referenceConfigurationLegal : Obligations.ReferenceConfigurationLegal := by
  refine ⟨cfgRef_legal, fun m zero => ?_⟩
  rw [resolveSlots_of_zero (zeroPriority_of_words cfgRef_legal fun i _ => zero i)]
  decide

end Sys2Proof.Proofs
end

section
/-!
A pixel of a frame (R143, R144, R150): what its phases leave in the scratch buffers there, and the colour the mixer gives it.
-/
namespace Sys2Proof.Proofs

open Sys2Proof.Config Sys2Proof.Machine Sys2Proof.Safety Sys2Proof.Laws

/-- Both tile buffers at a pixel (R34). -/
def tileAt (c : Cfg) (x y : Nat) (sc : Scratch) : Half × BitVec 3 := (tileColorAt c sc x y, tileTagAt c sc x y)

/-- The colour that the rule of a pixel's mask and tag gives it (R150). -/
def mixedRgb (c : Cfg) (s : State) (sc : Scratch) (x y : Nat) : Rgb :=
  composeRgb c (latchPalette s) (tileColorAt c sc x y) (sprColorAt c sc x y)
    (c.priLut (pixelCase c s.mem sc (x, y)).1 (pixelCase c s.mem sc (x, y)).2)

section
variable {c : Cfg} {k : Clip} {x y : Nat}

/-! ## The phases that leave a buffer alone -/

theorem tileAt_drawSprites (legal : c.Legal) (clip_in : ClipIn c k) (m : Storage) (sc : Scratch) :
    tileAt c x y (drawSprites c m k sc) = tileAt c x y sc := by
  obtain ⟨color, tag, -⟩ := spritesStayInClip c legal m k sc clip_in
  simp only [tileAt, tileColorAt, tileTagAt, color, tag]

theorem spriteAt_drawLayers (s : State) (sc : Scratch) : spriteAt c x y (drawLayers c s k sc) = spriteAt c x y sc := by
  refine foldl_keeps _ (spriteAt c x y) _ _ fun t e _ => ?_
  have plane : ∀ L tag coord, spriteAt c x y (drawPlane c s.mem L tag coord k t) = spriteAt c x y t := fun L tag coord => by
    obtain ⟨color, pri⟩ := drawPlane_sprites (c := c) k s.mem L tag coord t
    simp only [spriteAt, sprColorAt, sprPriAt, color, pri]
  unfold drawTarget
  split
  · exact plane _ _ _
  · exact plane _ _ _

variable (clip_in : ClipIn c k)
include clip_in

theorem x_lt_of_holds (held : k.Holds x y) : x < c.outW := held.2.1.trans_lt clip_in.1

section
variable (held : k.Holds x y)
include held

/-! ## The clearing phase -/

theorem clearScratch_cleared (sc : Scratch) :
    tileAt c x y (clearScratch c k sc) = (0, 0) ∧ spriteAt c x y (clearScratch c k sc) = (0, 0) := by
  have cleared := clearScratch_at clip_in (x_lt_of_holds clip_in held) sc (y := y)
  simp only [if_pos held, Prod.mk.injEq] at cleared
  obtain ⟨color, tag, sprColor, sprPri⟩ := cleared
  exact ⟨Prod.ext color tag, Prod.ext sprColor sprPri⟩

/-! ## The layers -/

/-- The draw of any target, ROZ or scrolling, at a pixel of the clip (R85, R95). -/
theorem tileAt_drawTarget (s : State) (sc : Scratch) (e : DrawTarget × Nat × BitVec 3) :
    tileAt c x y (drawTarget c s k sc e) =
      if (targetSample c s e.1 x y).1 ≠ c.transpen (targetLayer e.1) then ((targetSample c s e.1 x y).2, e.2.2)
      else tileAt c x y sc := by
  have plane : ∀ L tag coord, tileAt c x y (drawPlane c s.mem L tag coord k sc) =
      if (samplePlane c s.mem L (coord x y).1 (coord x y).2).1 ≠ c.transpen L then
        ((samplePlane c s.mem L (coord x y).1 (coord x y).2).2, tag)
      else tileAt c x y sc := fun L tag coord =>
    (drawPlane_at clip_in (x_lt_of_holds clip_in held) s.mem L tag coord sc).trans (if_congr (and_iff_right held) rfl rfl)
  obtain ⟨target, slot, tag⟩ := e
  cases target with
  | roz => exact plane .roz tag (rozCoord c s)
  | scroll L => exact plane (scrollLayer L) tag (scrollCoord c s L)

theorem tileAt_drawTarget_opaque {s : State} {e : DrawTarget × Nat × BitVec 3} (is_opaque : Opaque c s e.1 x y) (sc : Scratch) :
    tileAt c x y (drawTarget c s k sc e) = ((targetSample c s e.1 x y).2, e.2.2) :=
  (tileAt_drawTarget clip_in held s sc e).trans (if_pos is_opaque)

theorem tileAt_drawTargets_transparent {s : State} {es : List (DrawTarget × Nat × BitVec 3)}
    (transparent : ∀ e ∈ es, ¬ Opaque c s e.1 x y) (sc : Scratch) :
    tileAt c x y (es.foldl (drawTarget c s k) sc) = tileAt c x y sc :=
  foldl_keeps _ (tileAt c x y) es sc fun t e drawn =>
    (tileAt_drawTarget clip_in held s t e).trans (if_neg (transparent e drawn))

/-! ## The scratch buffers of a frame -/

/-- The tile pixel is that of the last opaque layer (R85, R144, R147). -/
theorem tileAt_renderScratch_opaque {s : State} {before after : List (DrawTarget × Nat × BitVec 3)}
    {e : DrawTarget × Nat × BitVec 3} (order : drawOrder c s.layer (resolveSlots c s.mem) = before ++ e :: after)
    (is_opaque : Opaque c s e.1 x y) (last : ∀ e' ∈ after, ¬ Opaque c s e'.1 x y) :
    tileAt c x y (renderScratch c s k) = ((targetSample c s e.1 x y).2, e.2.2) := by
  rw [renderScratch, drawLayers, order, List.foldl_append, List.foldl_cons,
    tileAt_drawTargets_transparent clip_in held last, tileAt_drawTarget_opaque clip_in held is_opaque]

theorem tileAt_renderScratch_transparent (legal : c.Legal) {s : State}
    (transparent : ∀ e ∈ drawOrder c s.layer (resolveSlots c s.mem), ¬ Opaque c s e.1 x y) :
    tileAt c x y (renderScratch c s k) = (0, 0) := by
  rw [renderScratch, drawLayers, tileAt_drawTargets_transparent clip_in held transparent,
    tileAt_drawSprites legal clip_in, (clearScratch_cleared clip_in held s.scratch).1]

omit clip_in held in
/-- The sprite pixel of a frame is that of the walk, which the layers leave alone (R144). -/
theorem spriteAt_renderScratch (s : State) : spriteAt c x y (renderScratch c s k) =
    spriteAt c x y (drawSprites c s.mem k (clearScratch c k s.scratch)) :=
  spriteAt_drawLayers s _

theorem spriteAt_renderScratch_uncovered (legal : c.Legal) {s : State}
    (uncovered : ∀ e ∈ spriteOrder c, ∀ q, ¬ SpriteCovers c s.mem k e x y q) :
    spriteAt c x y (renderScratch c s k) = (0, 0) := by
  rw [spriteAt_renderScratch, drawSprites,
    spriteAt_walk_uncovered clip_in (x_lt_of_holds clip_in held) legal uncovered,
    (clearScratch_cleared clip_in held s.scratch).2]

/-! ## The bitmap of a frame -/

/-- A pixel of the clip is the colour the rule of its mask and tag gives (R150). -/
theorem outAt_renderClip (s : State) : outAt c (renderClip c k s).out x y = mixedRgb c s (renderScratch c s k) x y :=
  (mixFrame_out_at clip_in (x_lt_of_holds clip_in held) s (renderScratch c s k)).trans (if_pos held)

theorem outAt_renderClip_of_rule {s : State} {rule : Rule}
    (rule_eq : c.priLut (pixelCase c s.mem (renderScratch c s k) (x, y)).1
      (pixelCase c s.mem (renderScratch c s k) (x, y)).2 = rule) :
    outAt c (renderClip c k s).out x y = composeRgb c (latchPalette s) (tileColorAt c (renderScratch c s k) x y)
      (sprColorAt c (renderScratch c s k) x y) rule :=
  (outAt_renderClip clip_in held s).trans (congrArg _ rule_eq)

end

theorem outAt_renderClip_outside (x_lt : x < c.outW) (outside : ¬ k.Holds x y) (s : State) :
    outAt c (renderClip c k s).out x y = outAt c s.out x y :=
  (mixFrame_out_at clip_in x_lt s (renderScratch c s k)).trans (if_neg outside)

end

/-- Settles O45: the layers decide the tile pixel from what the clearing left, and the walk the sprite pixel. -/
theorem topmostOpaqueLayerShows : Obligations.TopmostOpaqueLayerShows := by
  intro c legal s k x y clip_in held order sc
  have walk := (lastSpriteOfWalkWins c legal s.mem k (clearScratch c k s.scratch) x y clip_in (x_lt_of_holds clip_in held)).1
  refine ⟨fun before e after split is_opaque last => ?_, fun transparent => ?_, fun before e after q split covers last => ?_,
    fun uncovered => ?_⟩
  · exact Prod.mk.inj (tileAt_renderScratch_opaque clip_in held split is_opaque last)
  · exact Prod.mk.inj (tileAt_renderScratch_transparent clip_in held legal transparent)
  · obtain ⟨color, pri⟩ := walk before e after q split covers last
    exact Prod.mk.inj ((spriteAt_renderScratch s).trans (Prod.ext color pri))
  · exact Prod.mk.inj (spriteAt_renderScratch_uncovered clip_in held legal uncovered)

/-! ## The clamped clip -/

/-- A scaled channel is not truncated when its factor is at most 256 (R150, R155). -/
theorem toNat_scaleChannel (ch : Byte) {f : Nat} (f_le : f ≤ 256) : (scaleChannel ch f).toNat = ch.toNat * f / 256 := by
  have product_lt : ch.toNat * f < 256 * 256 :=
    calc ch.toNat * f ≤ ch.toNat * 256 := Nat.mul_le_mul_left _ f_le
      _ < 256 * 256 := Nat.mul_lt_mul_of_pos_right ch.isLt (by decide)
  rw [scaleChannel, BitVec.toNat_ofNat, Nat.mod_eq_of_lt (Nat.div_lt_of_lt_mul product_lt)]

/-- A pixel of the bitmap is in the clamped clip when it is in the operation's (R144). -/
theorem clampClip_holds_iff {c : Cfg} {minx maxx miny maxy : BitVec 12} {x y : Nat} (x_lt : x < c.outW) (y_lt : y < c.outH) :
    (clampClip c minx maxx miny maxy).Holds x y ↔
      minx.toNat ≤ x ∧ x ≤ maxx.toNat ∧ miny.toNat ≤ y ∧ y ≤ maxy.toNat := by
  simp only [clampClip, Clip.Holds]
  omega

/-- Settles O44: inside the clamped clip the four cases are those of `composeRgb`. -/
theorem renderWritesClampedClip : Obligations.RenderWritesClampedClip := by
  intro minx maxx miny maxy s
  have clip_in := clampClip_in cfg_legal minx maxx miny maxy
  refine ⟨renderClip cfg (clampClip cfg minx maxx miny maxy) s, rfl, rfl, renderClip_frame cfg _ s, rfl, fun x y x_lt y_lt => ?_⟩
  split
  next inside =>
    have held := (clampClip_holds_iff x_lt y_lt).2 inside
    intro tc sc tile
    split
    next rule => exact outAt_renderClip_of_rule clip_in held rule
    next rule => exact outAt_renderClip_of_rule clip_in held rule
    next f rule =>
      have f_le : f ≤ 256 := (cfg_legal.lut_blend _ _ _ rule).trans_le cfg_legal.blendKeep_le
      rw [outAt_renderClip_of_rule clip_in held rule]
      exact ⟨toNat_scaleChannel _ f_le, toNat_scaleChannel _ f_le, toNat_scaleChannel _ f_le⟩
    next rule => exact (outAt_renderClip_of_rule clip_in held rule).trans cfg_legal.placeholder_eq
  next outside =>
    exact outAt_renderClip_outside clip_in x_lt (fun held => outside ((clampClip_holds_iff x_lt y_lt).1 held)) s

/-! ## An all-zero priority memory -/

section
variable {c : Cfg} (legal : c.Legal) {m : Storage} (zero : ZeroPriority c m) (r : LayerRegs)
include legal zero

/-- The background is drawn: its slot is at most 3, and under `FIRST_ONLY` the one candidate before it has another slot (R153). -/
theorem background_mem_drawOrder : (.scroll (backgroundLayer r), c.slotOnZero .scrl, c.tagBg) ∈ drawOrder c r (resolveSlots c m) := by
  rw [resolveSlots_of_zero zero]
  have drawable : c.slotOnZero .scrl ≤ 3 := Nat.le_of_lt_succ legal.slot_zero
  cases tie : c.slotTieMode with
  | drawAll => exact mem_drawOrder_of_drawAll tie (by simp [slotCandidates]) drawable
  | firstOnly =>
    refine (mem_drawOrder_iff_of_firstOnly tie (by simp [slotCandidates]) drawable).2 fun e' candidate same_slot => ?_
    have not_roz : e' ≠ (.roz, c.slotOnZero .rot, c.tagRoz) := by
      rintro rfl
      exact legal.slot_zero_tie tie same_slot
    have second : (slotCandidates c r ⟨c.slotOnZero .asc, c.slotOnZero .scrl, c.slotOnZero .rot⟩).idxOf
        (.scroll (backgroundLayer r), c.slotOnZero .scrl, c.tagBg) = 1 := by
      rw [slotCandidates, List.idxOf_cons_ne _ (by simp), List.idxOf_cons_self]
    rw [second, slotCandidates, List.idxOf_cons_ne _ not_roz.symm]
    exact Nat.succ_pos _

/-- The layers drawn after the background are other layers: ROZ or TX. -/
theorem drawOrder_split_background : ∃ before after,
    drawOrder c r (resolveSlots c m) = before ++ (.scroll (backgroundLayer r), c.slotOnZero .scrl, c.tagBg) :: after ∧
      ∀ e ∈ after, e.1 = .roz ∨ e.1 = .scroll .tx := by
  obtain ⟨before, after, order⟩ := List.append_of_mem (background_mem_drawOrder legal zero r)
  refine ⟨before, after, order, fun e later => ?_⟩
  have sorted := pairwise_drawOrder c r (resolveSlots c m)
  rw [order] at sorted
  have after_background := (List.pairwise_cons.1 (List.pairwise_append.1 sorted).2.1).1 e later
  have drawn : e ∈ drawOrder c r (resolveSlots c m) := order ▸ List.mem_append_right _ (List.mem_cons_of_mem _ later)
  obtain ⟨candidate, -⟩ := of_mem_slotLayers (mem_drawOrder_iff.1 drawn).2
  rw [resolveSlots_of_zero zero] at candidate after_background
  simp only [slotCandidates, List.mem_cons, List.not_mem_nil, or_false] at candidate
  rcases candidate with rfl | rfl | rfl
  · exact .inl rfl
  · exact absurd after_background (by simp [DrawnBefore])
  · exact .inr rfl

end

/-- Where no sprite stands, both rules that show a sprite or a tile show the tile (R150). -/
theorem composeRgb_no_sprite (c : Cfg) (p : PalLatch) (tc : Half) {rule : Rule}
    (shows : rule = .showSpriteIfOpaque ∨ rule = .alwaysTile) : composeRgb c p tc 0 rule = palRgb c p tc := by
  have no_sprite : lowByte 0 = 0 := by decide
  rcases shows with rfl | rfl
  · simp only [composeRgb, no_sprite, ne_eq, not_true_eq_false, if_false]
  · rfl

/-- Settles O48: the background is the last opaque layer, no sprite covers the pixel, and both rules that the mask 0 and the
background's tag may have show the tile colour there. -/
theorem allZeroPriorityShowsBackground : Obligations.AllZeroPriorityShowsBackground := by
  intro c legal s k P clip_in zero_words skipped layers x y held
  obtain ⟨background, index, tx_transparent, roz_transparent⟩ := layers x y held
  have zero : ZeroPriority c s.mem := zeroPriority_of_words legal zero_words
  obtain ⟨before, after, order, others⟩ := drawOrder_split_background legal zero s.layer
  have last : ∀ e ∈ after, ¬ Opaque c s e.1 x y := fun e later => by
    rcases others e later with roz | tx
    · rwa [roz]
    · rwa [tx]
  have tile := tileAt_renderScratch_opaque clip_in held order background last
  rw [index] at tile
  obtain ⟨color, tag⟩ := Prod.mk.inj tile
  have uncovered : ∀ e ∈ spriteOrder c, ∀ q, ¬ SpriteCovers c s.mem k e x y q := fun e walked q covers =>
    Bool.false_ne_true (covers.1.symm.trans (skipped e (mem_spriteOrder.1 walked)))
  obtain ⟨sprite, -⟩ := Prod.mk.inj (spriteAt_renderScratch_uncovered clip_in held legal uncovered)
  calc outAt c (renderClip c k s).out x y
      = mixedRgb c s (renderScratch c s k) x y := outAt_renderClip clip_in held s
    _ = composeRgb c (latchPalette s) P 0 (c.priLut 0 c.tagBg) := by
        rw [mixedRgb, pixelCase, color, tag, sprite, pixelMask_of_zero zero]
    _ = palRgb c (latchPalette s) P := composeRgb_no_sprite c _ P legal.lut_zero
    _ = convert c (latchPalette s) (P.toNat % 0x8000) := by rw [palRgb, legal.palEntries_eq]

end Sys2Proof.Proofs
end

section
/-!
The diagnostics of a frame (R151, R180, R181): every unhandled pixel is counted, and the first of each mask is logged.
-/
namespace Sys2Proof.Proofs

open Sys2Proof.Config Sys2Proof.Machine Sys2Proof.Safety Sys2Proof.Laws

/-! ## The first element of each key -/

section
variable {α κ : Type} [DecidableEq κ] (key : α → κ)

/-- The elements whose key was not seen before them, `seen` being the keys seen at the start. -/
def firstOfKeys : List κ → List α → List α
  | _, [] => []
  | seen, q :: qs => if key q ∈ seen then firstOfKeys seen qs else q :: firstOfKeys (key q :: seen) qs

variable {key} {seen : List κ} {q : α}

theorem firstOfKeys_cons_seen (was_seen : key q ∈ seen) (qs : List α) :
    firstOfKeys key seen (q :: qs) = firstOfKeys key seen qs := if_pos was_seen

theorem firstOfKeys_cons_new (new : key q ∉ seen) (qs : List α) :
    firstOfKeys key seen (q :: qs) = q :: firstOfKeys key (key q :: seen) qs := if_neg new

variable (key) in
theorem firstOfKeys_sublist (seen : List κ) (qs : List α) : (firstOfKeys key seen qs).Sublist qs := by
  induction qs generalizing seen with
  | nil => exact List.Sublist.refl _
  | cons q qs ih =>
    by_cases was_seen : key q ∈ seen
    · rw [firstOfKeys_cons_seen was_seen]
      exact (ih seen).cons q
    · rw [firstOfKeys_cons_new was_seen]
      exact (ih _).cons_cons q

/-- An element is the first of its key when the key stands neither in `seen` nor before it. -/
theorem mem_firstOfKeys_iff {before after : List α} (nodup : (before ++ q :: after).Nodup) :
    q ∈ firstOfKeys key seen (before ++ q :: after) ↔ key q ∉ seen ∧ ∀ q' ∈ before, key q' ≠ key q := by
  induction before generalizing seen with
  | nil =>
    rw [List.nil_append] at nodup ⊢
    have not_later : q ∉ after := (List.nodup_cons.1 nodup).1
    by_cases was_seen : key q ∈ seen
    · rw [firstOfKeys_cons_seen was_seen]
      have not_found : q ∉ firstOfKeys key seen after := fun found =>
        not_later ((firstOfKeys_sublist key seen after).subset found)
      simp [was_seen, not_found]
    · rw [firstOfKeys_cons_new was_seen]
      simp [was_seen]
  | cons p before ih =>
    rw [List.cons_append] at nodup ⊢
    obtain ⟨p_once, rest_nodup⟩ := List.nodup_cons.1 nodup
    have other : q ≠ p := by
      rintro rfl
      exact p_once (List.mem_append_right _ List.mem_cons_self)
    rw [List.forall_mem_cons]
    by_cases was_seen : key p ∈ seen
    · have of_not_seen : key q ∉ seen → key p ≠ key q := fun not_seen same => not_seen (same ▸ was_seen)
      rw [firstOfKeys_cons_seen was_seen, ih rest_nodup]
      tauto
    · rw [firstOfKeys_cons_new was_seen, List.mem_cons, or_iff_right other, ih rest_nodup, List.mem_cons]
      tauto

/-- The keys of the first elements are new and distinct. -/
theorem keys_firstOfKeys (seen : List κ) (qs : List α) :
    (∀ q ∈ firstOfKeys key seen qs, key q ∉ seen) ∧ ((firstOfKeys key seen qs).map key).Nodup := by
  induction qs generalizing seen with
  | nil => exact ⟨fun q none => absurd none List.not_mem_nil, List.nodup_nil⟩
  | cons q qs ih =>
    by_cases was_seen : key q ∈ seen
    · rw [firstOfKeys_cons_seen was_seen]
      exact ih seen
    · rw [firstOfKeys_cons_new was_seen]
      obtain ⟨new, distinct⟩ := ih (key q :: seen)
      refine ⟨List.forall_mem_cons.2 ⟨was_seen, fun q' later old => new q' later (List.mem_cons_of_mem _ old)⟩, ?_⟩
      refine List.nodup_cons.2 ⟨fun again => ?_, distinct⟩
      obtain ⟨q', later, same⟩ := List.mem_map.1 again
      exact new q' later (same ▸ List.mem_cons_self)

end

/-! ## The pixel loop -/

section
variable (c : Cfg) (m : Storage) (p : PalLatch) (sc : Scratch)

/-- The mask of a pixel (R148). -/
def maskAt (q : Nat × Nat) : BitVec 8 := (pixelCase c m sc q).1

/-- The pixel resolves to `Unhandled` (R151). -/
def isUnhandled (q : Nat × Nat) : Bool := c.priLut (maskAt c m sc q) (pixelCase c m sc q).2 = .unhandled

theorem unhandledPixels_eq (k : Clip) : unhandledPixels c m sc k = (clipPixels k).filter (isUnhandled c m sc) := rfl

/-- The record of an unhandled pixel (R180). -/
def unhandledRecord (q : Nat × Nat) : Diag := .unhandledMask (maskAt c m sc q) (pixelCase c m sc q).2 q.1 q.2

/-- But for the bitmap, a round of the loop does the bookkeeping of an unhandled pixel, and nothing at another (R150, R151). -/
theorem mixPixel_bookkeeping (t : MixState) (q : Nat × Nat) : ∃ o, mixPixel c m p sc t q =
    { (if isUnhandled c m sc q then noteUnhandled (maskAt c m sc q) (pixelCase c m sc q).2 q.1 q.2 t else t) with out := o } := by
  simp only [isUnhandled, decide_eq_true_eq]
  exact ⟨_, rfl⟩

theorem mixPixel_count (t : MixState) (q : Nat × Nat) :
    (mixPixel c m p sc t q).count = t.count + [q].countP (isUnhandled c m sc) := by
  obtain ⟨o, noted⟩ := mixPixel_bookkeeping c m p sc t q
  rw [noted, List.countP_singleton]
  split
  · simp only [noteUnhandled]
    split <;> rfl
  · rfl

variable {c m sc} {q : Nat × Nat}

theorem mixPixel_log_of_new (unhandled : isUnhandled c m sc q = true) {t : MixState} (new : maskAt c m sc q ∉ t.logged) :
    (mixPixel c m p sc t q).log = t.log ++ [unhandledRecord c m sc q] ∧
      (mixPixel c m p sc t q).logged = maskAt c m sc q :: t.logged := by
  obtain ⟨o, noted⟩ := mixPixel_bookkeeping c m p sc t q
  rw [noted, if_pos unhandled, noteUnhandled, if_neg new]
  exact ⟨rfl, rfl⟩

theorem mixPixel_log_of_logged (unhandled : isUnhandled c m sc q = true) {t : MixState} (logged : maskAt c m sc q ∈ t.logged) :
    (mixPixel c m p sc t q).log = t.log ∧ (mixPixel c m p sc t q).logged = t.logged := by
  obtain ⟨o, noted⟩ := mixPixel_bookkeeping c m p sc t q
  rw [noted, if_pos unhandled, noteUnhandled, if_pos logged]
  exact ⟨rfl, rfl⟩

theorem mixPixel_log_of_handled (handled : ¬ isUnhandled c m sc q = true) (t : MixState) :
    (mixPixel c m p sc t q).log = t.log ∧ (mixPixel c m p sc t q).logged = t.logged := by
  obtain ⟨o, noted⟩ := mixPixel_bookkeeping c m p sc t q
  rw [noted, if_neg handled]
  exact ⟨rfl, rfl⟩

theorem foldl_mixPixel_count (qs : List (Nat × Nat)) (t : MixState) :
    (qs.foldl (mixPixel c m p sc) t).count = t.count + (qs.filter (isUnhandled c m sc)).length := by
  rw [← List.countP_eq_length_filter]
  induction qs generalizing t with
  | nil => rfl
  | cons q qs ih => rw [List.foldl_cons, ih, mixPixel_count, Nat.add_assoc, ← List.countP_append, List.singleton_append]

/-- The loop logs the first unhandled pixel of each mask that was not logged yet. -/
theorem foldl_mixPixel_log (qs : List (Nat × Nat)) (t : MixState) : (qs.foldl (mixPixel c m p sc) t).log =
    t.log ++ (firstOfKeys (maskAt c m sc) t.logged (qs.filter (isUnhandled c m sc))).map (unhandledRecord c m sc) := by
  induction qs generalizing t with
  | nil => exact (List.append_nil _).symm
  | cons q qs ih =>
    rw [List.foldl_cons, ih]
    by_cases unhandled : isUnhandled c m sc q = true
    · rw [List.filter_cons_of_pos unhandled]
      by_cases logged : maskAt c m sc q ∈ t.logged
      · obtain ⟨log, masks⟩ := mixPixel_log_of_logged p unhandled logged
        rw [log, masks, firstOfKeys_cons_seen logged]
      · obtain ⟨log, masks⟩ := mixPixel_log_of_new p unhandled logged
        rw [log, masks, firstOfKeys_cons_new logged, List.map_cons, List.append_assoc, List.singleton_append]
    · obtain ⟨log, masks⟩ := mixPixel_log_of_handled p unhandled t
      rw [log, masks, List.filter_cons_of_neg unhandled]

end

/-- The count of a frame rises by the number of unhandled pixels (R151). -/
theorem renderClip_unhandledCount (c : Cfg) (s : State) (k : Clip) : (renderClip c k s).unhandledCount =
    s.unhandledCount + (unhandledPixels c s.mem (renderScratch c s k) k).length := by
  rw [unhandledPixels_eq]
  exact foldl_mixPixel_count (latchPalette s) (clipPixels k) _

/-- Settles O47: the records are those of the first unhandled pixel of each mask. -/
theorem unhandledPixelsCountedAndLogged : Obligations.UnhandledPixelsCountedAndLogged := by
  intro c s k t bad maskOf tagOf
  have log : t.diagLog = s.diagLog ++ (firstOfKeys maskOf [] bad).map (unhandledRecord c s.mem t.scratch) :=
    foldl_mixPixel_log (latchPalette s) (clipPixels k) _
  have nodup : bad.Nodup := (nodup_clipPixels k).filter _
  refine ⟨renderClip_unhandledCount c s k, firstOfKeys maskOf [] bad, firstOfKeys_sublist maskOf [] bad,
    (keys_firstOfKeys [] bad).2, fun before q after split => ?_, log⟩
  rw [split] at nodup ⊢
  rw [mem_firstOfKeys_iff nodup, and_iff_right List.not_mem_nil]

end Sys2Proof.Proofs
end

section
/-!
What a frame depends on (R24, R34, R114, R119, R152): two states with the same inputs sample, order and draw alike, pixel by pixel.
-/
namespace Sys2Proof.Proofs

open Sys2Proof.Config Sys2Proof.Machine Sys2Proof.Safety Sys2Proof.Laws

section
variable {c : Cfg} {s t : State} (inputs : SameInputs s t)
include inputs

/-! ## The functions of the inputs -/

theorem memRead_of_sameInputs {sp : Space} (not_live : sp ≠ .sprLive) (i : Nat) :
    memRead c s.mem sp i = memRead c t.mem sp i := by
  simp only [memRead, wordAt, inputs.mem sp not_live]

theorem latchPalette_of_sameInputs : latchPalette s = latchPalette t := by
  have palram : s.mem.palram = t.mem.palram := inputs.mem .palram Space.noConfusion
  rw [latchPalette, latchPalette, palram, inputs.scales]

theorem priHalf_of_sameInputs : priHalf c s.mem = priHalf c t.mem := by
  funext i
  rw [priHalf, priHalf, memRead_of_sameInputs inputs Space.noConfusion]

theorem pixelMask_of_sameInputs : pixelMask c s.mem = pixelMask c t.mem := by
  have tests : maskTest c s.mem = maskTest c t.mem := by
    funext sp i
    rw [maskTest, maskTest, priHalf_of_sameInputs inputs]
  funext sp
  rw [pixelMask, pixelMask, tests]

theorem drawOrder_of_sameInputs :
    drawOrder c s.layer (resolveSlots c s.mem) = drawOrder c t.layer (resolveSlots c t.mem) := by
  have slots : resolveSlots c s.mem = resolveSlots c t.mem := by
    have hits : slotHit c s.mem = slotHit c t.mem := by
      funext k
      rw [slotHit, slotHit, priHalf_of_sameInputs inputs]
    have checks : increments c s.mem = increments c t.mem := by
      funext k
      rw [increments, increments, hits]
    rw [resolveSlots_eq, resolveSlots_eq, checks]
  have background : backgroundLayer s.layer = backgroundLayer t.layer := by
    simp only [backgroundLayer, inputs.layout]
  have candidates : slotCandidates c s.layer = slotCandidates c t.layer := by
    funext u
    simp only [slotCandidates, background]
  have layers : slotLayers c s.layer = slotLayers c t.layer := by
    funext u v
    simp only [slotLayers, candidates]
  rw [drawOrder, drawOrder, slots, layers]

theorem drawSprite_of_sameInputs (k : Clip) : drawSprite c s.mem k = drawSprite c t.mem k := by
  have entries : spriteEntry c s.mem = spriteEntry c t.mem := by
    funext e
    simp only [spriteEntry, memRead_of_sameInputs inputs (sp := .sprDisp) Space.noConfusion]
  funext sc e
  simp only [drawSprite, entries]

theorem samplePlane_of_sameInputs (L : Layer) (uv : Nat × Nat) :
    samplePlane c s.mem L uv.1 uv.2 = samplePlane c t.mem L uv.1 uv.2 := by
  have not_live : tableSpace c L ≠ .sprLive := by
    cases L with
    | bgalt => rw [tableSpace_bgalt]; split <;> exact Space.noConfusion
    | tx | bg | roz => exact Space.noConfusion
  simp only [samplePlane, cellAttr, memRead_of_sameInputs inputs not_live]

theorem scrollCoord_of_sameInputs (L : ScrollLayer) (x y : Nat) : scrollCoord c s L x y = scrollCoord c t L x y := by
  obtain ⟨scroll_x, scroll_y⟩ := inputs.scroll L
  simp only [scrollCoord, scroll_x, scroll_y, inputs.flipX, inputs.flipY, inputs.visW, inputs.visH]

/-- The transform reads words 0 to 15 and `MODE` of the register file, and the line table (R88, R89, R93). -/
theorem rozUnwrapped_of_sameInputs (x y : Nat) : rozUnwrapped c s x y = rozUnwrapped c t x y := by
  have word : ∀ k (k_lt : k < 32), k < 16 ∨ k = 23 → s.rozctrl[k] = t.rozctrl[k] := fun k k_lt => inputs.rozctrl ⟨k, k_lt⟩
  have lines : lineField c s.mem = lineField c t.mem := by
    funext n j
    simp only [lineField, memRead_of_sameInputs inputs (sp := .lineram) Space.noConfusion]
  have mode : rozSuper s.rozctrl = rozSuper t.rozctrl := by
    simp (disch := decide) only [rozSuper, word]
  have simple : rozSimple c s.rozctrl = rozSimple c t.rozctrl := by
    funext xd yd
    simp (disch := decide) only [rozSimple, rozStartX, rozStartY, rozOffX, rozOffY, rozIncXX, rozIncXY, rozIncYY, rozIncYX, word]
  have line : rozLine c s.mem s.rozctrl = rozLine c t.mem t.rozctrl := by
    funext xd yd
    simp (disch := decide) only [rozLine, rozStartX, rozStartY, rozOffX, rozOffY, lines, word]
  have input : rozInput c s x y = rozInput c t x y := by
    rw [rozInput, rozInput, inputs.flipX, inputs.flipY, inputs.visW, inputs.visH]
  rw [rozUnwrapped, rozUnwrapped, mode, simple, line, input]

theorem rozCoord_of_sameInputs (x y : Nat) : rozCoord c s x y = rozCoord c t x y := by
  rw [rozCoord_eq, rozCoord_eq, rozUnwrapped_of_sameInputs inputs, inputs.flipX, inputs.flipY]

theorem targetSample_of_sameInputs (e : DrawTarget) (x y : Nat) : targetSample c s e x y = targetSample c t e x y := by
  cases e with
  | roz => simp only [targetSample, rozCoord_of_sameInputs inputs, samplePlane_of_sameInputs inputs]
  | scroll L => simp only [targetSample, scrollCoord_of_sameInputs inputs, samplePlane_of_sameInputs inputs]

/-! ## The scratch buffers -/

variable {k : Clip} {x y : Nat} (legal : c.Legal) (clip_in : ClipIn c k) (held : k.Holds x y)
include legal clip_in held

/-- Both frames clear the pixel and draw the same layers, each with the same sample. -/
theorem tileAt_of_sameInputs : tileAt c x y (renderScratch c s k) = tileAt c x y (renderScratch c t k) := by
  have cleared : ∀ u : State, tileAt c x y (drawSprites c u.mem k (clearScratch c k u.scratch)) = (0, 0) := fun u => by
    rw [tileAt_drawSprites legal clip_in, (clearScratch_cleared clip_in held u.scratch).1]
  rw [renderScratch, renderScratch, drawLayers, drawLayers, drawOrder_of_sameInputs inputs]
  refine List.foldl_rel (r := fun a b => tileAt c x y a = tileAt c x y b) ((cleared s).trans (cleared t).symm)
    fun e _ a b same => ?_
  rw [tileAt_drawTarget clip_in held, tileAt_drawTarget clip_in held, targetSample_of_sameInputs inputs, same]

/-- Both frames clear the pixel and walk the same entries, each of which decides the pixel or leaves it. -/
theorem spriteAt_of_sameInputs : spriteAt c x y (renderScratch c s k) = spriteAt c x y (renderScratch c t k) := by
  have x_lt := x_lt_of_holds clip_in held
  have cleared := fun u : State => (clearScratch_cleared clip_in held u.scratch).2
  rw [spriteAt_renderScratch, spriteAt_renderScratch, drawSprites, drawSprites, drawSprite_of_sameInputs inputs]
  refine List.foldl_rel (r := fun a b => spriteAt c x y a = spriteAt c x y b) ((cleared s).trans (cleared t).symm)
    fun e _ a b same => ?_
  by_cases covered : ∃ q, SpriteCovers c t.mem k e x y q
  · obtain ⟨q, covers⟩ := covered
    rw [spriteAt_drawSprite_covered clip_in x_lt legal covers, spriteAt_drawSprite_covered clip_in x_lt legal covers]
  · have uncovered := not_exists.1 covered
    rw [spriteAt_drawSprite_uncovered clip_in x_lt legal uncovered, same,
      spriteAt_drawSprite_uncovered clip_in x_lt legal uncovered]

theorem pixelCase_of_sameInputs :
    pixelCase c s.mem (renderScratch c s k) (x, y) = pixelCase c t.mem (renderScratch c t k) (x, y) := by
  obtain ⟨-, tag⟩ := Prod.mk.inj (tileAt_of_sameInputs inputs legal clip_in held)
  obtain ⟨-, pri⟩ := Prod.mk.inj (spriteAt_of_sameInputs inputs legal clip_in held)
  rw [pixelCase, pixelCase, tag, pri, pixelMask_of_sameInputs inputs]

theorem mixedRgb_of_sameInputs :
    mixedRgb c s (renderScratch c s k) x y = mixedRgb c t (renderScratch c t k) x y := by
  obtain ⟨tile, -⟩ := Prod.mk.inj (tileAt_of_sameInputs inputs legal clip_in held)
  obtain ⟨sprite, -⟩ := Prod.mk.inj (spriteAt_of_sameInputs inputs legal clip_in held)
  rw [mixedRgb, mixedRgb, latchPalette_of_sameInputs inputs, tile, sprite, pixelCase_of_sameInputs inputs legal clip_in held]

end

/-- Settles O46: at a pixel of the clip the scratch buffers, and so the mask, the tag and the colour, are the same. -/
theorem frameDependsOnInputsOnly : Obligations.FrameDependsOnInputsOnly := by
  intro c legal s t k clip_in inputs
  refine ⟨fun x y held => ?_, latchPalette_of_sameInputs inputs, ?_⟩
  · rw [outAt_renderClip clip_in held, outAt_renderClip clip_in held, mixedRgb_of_sameInputs inputs legal clip_in held]
  · have same_pixels : unhandledPixels c s.mem (renderScratch c s k) k = unhandledPixels c t.mem (renderScratch c t k) k :=
      List.filter_congr fun q in_clip => by
        rw [pixelCase_of_sameInputs inputs legal clip_in (mem_clipPixels.1 in_clip)]
    rw [renderClip_unhandledCount, renderClip_unhandledCount, same_pixels]
    omega

end Sys2Proof.Proofs
end

section
/-!
The palette converter and the brightness writes: what an entry converts to, which bits of an index the mixer uses, and each write by its
register (R155 to R159, R161 to R164).
-/
namespace Sys2Proof.Proofs

open Sys2Proof.Config Sys2Proof.Machine Sys2Proof.Safety Sys2Proof.Laws

/-! ## Brightness writes -/

/-- Each listed brightness write is the write of its bank and register (R60, R161 to R164). -/
theorem exec_brightnessWrites {data : Word} {lanes : Lanes} {p : Instr × Bank × BrtReg}
    (listed : p ∈ brightnessWrites data lanes) (s : State) : exec p.1 s = .next (brightWrite cfg p.2.1 p.2.2 data lanes s) := by
  revert p
  simp only [brightnessWrites, List.forall_mem_cons]
  exact ⟨rfl, rfl, rfl, rfl, List.forall_mem_nil _⟩

/-- The registers after one is replaced, each by its bank and number (R30). -/
theorem brt_get_set (t : BrtRegs) (b b' : Bank) (r r' : BrtReg) (v : Half) :
    (t.set b r v).get b' r' = if b' = b ∧ r' = r then v else t.get b' r' := by
  by_cases addressed : b' = b ∧ r' = r
  · obtain ⟨rfl, rfl⟩ := addressed
    rw [if_pos ⟨rfl, rfl⟩, brt_get_set_same]
  · rw [if_neg addressed]
    exact brt_get_set_other t v fun same => addressed (Prod.mk.inj same)

section
variable (c : Cfg) (b : Bank) (r : BrtReg) (data : Word) {lanes : Lanes} (s : State)

/-- With lanes 0 and 1 clear a brightness write has no effect (R159). -/
theorem brightWrite_of_no_lane (no_lane : lanes16 lanes = 0) : brightWrite c b r data lanes s = s :=
  if_pos no_lane

/-- With a lane, a brightness write replaces the register by the merged value (R159). -/
theorem brightWrite_brt (some_lane : lanes16 lanes ≠ 0) :
    (brightWrite c b r data lanes s).brt = s.brt.set b r (mergeLanes16 (s.brt.get b r) data (lanes16 lanes)) := by
  rw [brightWrite, if_neg some_lane]
  dsimp only
  split <;> rfl

/-- With a lane, a brightness write recomputes the scales exactly when it changes a register of `BRIGHT_BANK` (R159). -/
theorem brightWrite_scales (some_lane : lanes16 lanes ≠ 0) :
    (brightWrite c b r data lanes s).scales =
      if b = c.brightBank ∧ mergeLanes16 (s.brt.get b r) data (lanes16 lanes) ≠ s.brt.get b r
      then scalesOf (brightWrite c b r data lanes s).brt b else s.scales := by
  rw [brightWrite_brt c b r data s some_lane, brightWrite, if_neg some_lane]
  dsimp only
  split <;> rfl

end

/-- Settles O17: a write without lanes 0 and 1 is skipped; else `brightWrite_brt` and `brightWrite_scales` within the frame. -/
protected theorem brightnessWrites : Obligations.BrightnessWrites := by
  intro data lanes s p listed old mask new
  obtain ⟨i, b, r⟩ := p
  have merged : mergeLanes16 old data (lanes16 lanes) = new := mergeLanes16_lanes16 old data lanes
  refine ⟨_, exec_brightnessWrites listed s, ?_⟩
  split
  case isTrue no_lane => exact brightWrite_of_no_lane cfg b r data s no_lane
  case isFalse some_lane =>
    have brt := brightWrite_brt cfg b r data s some_lane
    have scales := brightWrite_scales cfg b r data s some_lane
    rw [merged] at brt scales
    refine ⟨brightWrite_frame cfg b r data lanes s, fun b' r' => ?_, ?_⟩
    · rw [brt, brt_get_set]
    · split
      case isTrue recomputed =>
        rw [scales, if_pos recomputed]
        exact ⟨rfl, rfl, rfl⟩
      case isFalse kept => rw [scales, if_neg kept]

/-! ## Conversion -/

section
variable {c : Cfg} {p : PalLatch} {i : Nat}

/-- An entry whose index has bit 14 set converts to its raw channels (R155). -/
theorem convert_of_bit14 (unscaled : i.testBit 14 = true) : convert c p i = rawRgb c p i :=
  if_pos unscaled

/-- An entry whose index has bit 14 clear converts to its scaled channels (R155). -/
theorem convert_of_not_bit14 (scaled : ¬ i.testBit 14 = true) :
    convert c p i = ⟨scaleChannel (rawRgb c p i).r p.scales.r, scaleChannel (rawRgb c p i).g p.scales.g,
      scaleChannel (rawRgb c p i).b p.scales.b⟩ :=
  if_neg scaled

end

/-- Settles O20: no scaled channel is truncated, because every scale is at most 256. -/
theorem paletteConversion : Obligations.PaletteConversion := by
  intro c s i ⟨r_le, g_le, b_le⟩ w0 w1 r g b o
  by_cases bit14 : i.testBit 14 = true
  · have raw : o = rawRgb c (latchPalette s) i := convert_of_bit14 bit14
    rw [if_pos bit14, raw]
    exact ⟨rfl, rfl, rfl⟩
  · have scaled : o = _ := convert_of_not_bit14 bit14
    rw [if_neg bit14, scaled]
    exact ⟨toNat_scaleChannel _ r_le, toNat_scaleChannel _ g_le, toNat_scaleChannel _ b_le⟩

/-! ## The extreme scales -/

/-- Scale 256 leaves a channel as it is (R158). -/
theorem scaleChannel_256 (ch : Byte) : scaleChannel ch 256 = ch := by
  refine BitVec.eq_of_toNat_eq ?_
  rw [toNat_scaleChannel ch (Nat.le_refl 256), Nat.mul_div_cancel _ (by decide)]

/-- Scales 0 and 1 black a channel out, because a channel is below 256 (R158). -/
theorem scaleChannel_eq_zero (ch : Byte) {scale : Nat} (dark : scale ≤ 1) : scaleChannel ch scale = 0 := by
  have product_lt : ch.toNat * scale < 256 :=
    (mul_le_of_le_one_right (Nat.zero_le _) dark).trans_lt ch.isLt
  rw [scaleChannel, Nat.div_eq_of_lt product_lt]
  rfl

/-- Settles O21. -/
theorem brightnessExtremes : Obligations.BrightnessExtremes := by
  refine ⟨fun ch => ⟨scaleChannel_256 ch, scaleChannel_eq_zero ch (by decide), scaleChannel_eq_zero ch (by decide)⟩,
    fun c p i => convert_of_bit14, fun c ram i => ?_⟩
  by_cases bit14 : i.testBit 14 = true
  · exact convert_of_bit14 bit14
  · simp only [convert_of_not_bit14 bit14, scaleChannel_256]

/-! ## The bits of a palette index -/

/-- Setting bit 15 of an index and clearing it leave the same 15 low bits. -/
theorem toNat_mod_of_bit15 (idx : Half) : (idx ||| 0x8000).toNat % 0x8000 = (idx &&& 0x7FFF).toNat % 0x8000 := by
  have low_bits : (idx ||| 0x8000).setWidth 15 = (idx &&& 0x7FFF).setWidth 15 := by
    rw [BitVec.setWidth_or, BitVec.setWidth_and]
    calc idx.setWidth 15 ||| 0 = idx.setWidth 15 := BitVec.or_zero
      _ = idx.setWidth 15 &&& BitVec.allOnes 15 := BitVec.and_allOnes.symm
  simpa only [BitVec.toNat_setWidth] using congrArg BitVec.toNat low_bits

/-- Bit 14 of an index is below the bit that the mixer drops. -/
theorem testBit_14_toNat_mod (idx : Half) : (idx.toNat % 0x8000).testBit 14 = idx.getLsbD 14 := by
  rw [show 0x8000 = 2 ^ 15 from rfl, Nat.testBit_mod_two_pow]
  rfl

/-- Settles O22: a legal palette has `0x8000` entries. -/
theorem paletteIndexBits : Obligations.PaletteIndexBits := by
  intro c legal p idx
  have looked_up : ∀ idx, palRgb c p idx = convert c p (idx.toNat % 0x8000) := fun idx => by
    rw [palRgb, legal.palEntries_eq]
  refine ⟨looked_up idx, ?_, fun bit14 => ?_⟩
  · rw [looked_up, looked_up, toNat_mod_of_bit15]
  · rw [looked_up, convert_of_bit14 ((testBit_14_toNat_mod idx).trans bit14)]

end Sys2Proof.Proofs
end

section
/-!
The bounds of a recomputed geometry (R129, R169).
-/
namespace Sys2Proof.Proofs

open Sys2Proof.Config Sys2Proof.Machine Sys2Proof.Safety Sys2Proof.Laws

/-- A recomputation leaves the geometry of the registers it finds (R129). -/
@[simp] theorem recompute_geom (c : Cfg) (s : State) : (recompute c s).geom = crtcGeometry s.crtc := by rw [recompute_eq]

/-- Settles O15: a recomputed geometry is that of the registers, and `crtcGeometry_bounds` bounds it whatever they hold. -/
theorem geometryBounds : Obligations.GeometryBounds := by
  intro c s g
  have computed : g = crtcGeometry s.crtc := recompute_geom c s
  rw [computed]
  exact crtcGeometry_bounds s.crtc

end Sys2Proof.Proofs
end

section
/-!
Words that are no operation of a component: the reserved words (R176) and the register writes at an offset that no register has (R177).
-/
namespace Sys2Proof.Proofs

open Sys2Proof.Config Sys2Proof.Machine Sys2Proof.Safety Sys2Proof.Laws

/-! ## Reserved words -/

/-- A reserved operation logs its word (R176). -/
theorem exec_reserved {i : Instr} (reserved : Reserved i) (s : State) : exec i s = .next (badOp (encode i) s) :=
  match i, reserved with
  | .reservedOpc0 _, _ | .reservedOpc4to7 _, _ | .reservedOpc8to15 _, _ | .reservedComp _, _ => rfl

/-- The classes of words that decode to a reserved operation (R55, R176). -/
theorem reserved_decode {w : OpWord}
    (no_operation : fieldOpc w = 0 ∨ 4 ≤ (fieldOpc w).toNat ∨ (fieldOpc w = 1 ∧ 12 ≤ (fieldComp w).toNat)) :
    Reserved (decode w) := by
  obtain opc | opc | opc | top | top | top | ⟨opc, component⟩ := word_class w
  · rw [decode_of_opc0 opc]; trivial
  · bv_omega
  · bv_omega
  · rw [decode_of_opc4to7 top]; trivial
  · rw [decode_of_opc8to15 top]; trivial
  · rw [decode_of_reservedComp top]; trivial
  · bv_omega

/-- Every bit of a word that is no `VBLANK` and no `RENDER` is kept by its operation (R55; log 13). -/
theorem encode_decode_eq_self {w : OpWord} (no_vblank : fieldOpc w ≠ 2) (no_render : fieldOpc w ≠ 3) :
    encode (decode w) = w :=
  (encodeDecodeAgree w).2.trans (clearIgnored_eq_self no_vblank no_render)

/-- Settles O5: a reserved word decodes to a reserved operation, which keeps all of its bits for the record. -/
theorem reservedWordsLogged : Obligations.ReservedWordsLogged := by
  refine ⟨fun w s no_operation => ?_, fun i s reserved => exec_reserved reserved s⟩
  have word : encode (decode w) = w := encode_decode_eq_self (by bv_omega) (by bv_omega)
  rw [exec_reserved (reserved_decode no_operation), word]
  rfl

/-! ## Unassigned register offsets -/

/-- Each listed write is the unassigned register write of its component (R60, R177). -/
theorem exec_unknownWrites {off : Offset} {data : Word} {lanes : Lanes} {p : Instr × BitVec 4}
    (listed : p ∈ unknownWrites off data lanes) (s : State) : exec p.1 s = .next (unknownReg p.2 off data lanes s) := by
  revert p
  simp only [unknownWrites, List.forall_mem_cons]
  exact ⟨rfl, rfl, rfl, rfl, List.forall_mem_nil _⟩

section
variable {w : OpWord} (opc : fieldOpc w = 1)
include opc

/-- A `WRITE` word, decoded by its fields (R55, R56). -/
theorem decode_eq_of_fields : decode w = decode (packWrite (fieldComp w) (fieldLanes w) (fieldOff w) (fieldData w)) := by
  rw [packWrite_fields w opc]

/-- A `WRITE` word whose offset no register of its component has (R177). -/
theorem decode_unassigned
    (unassigned : (fieldComp w = 8 ∧ 32 ≤ (fieldOff w).toNat) ∨ (fieldComp w = 9 ∧ 7 ≤ (fieldOff w).toNat) ∨
      (fieldComp w = 10 ∧ 4 ≤ (fieldOff w).toNat) ∨ (fieldComp w = 11 ∧ 7 ≤ (fieldOff w).toNat)) :
    (decode w, fieldComp w) ∈ unknownWrites (fieldOff w) (fieldData w) (fieldLanes w) := by
  rw [decode_eq_of_fields opc]
  obtain ⟨comp, off⟩ | ⟨comp, off⟩ | ⟨comp, off⟩ | ⟨comp, off⟩ := unassigned <;> rw [comp]
  · rw [decode_packWrite_rozctrl, decodeRozctrl_unknown _ _ off]; simp [unknownWrites]
  · rw [decode_packWrite_crtc, decodeCrtc_unknown _ _ off]; simp [unknownWrites]
  · rw [decode_packWrite_bright, decodeBright_unknown _ _ off]; simp [unknownWrites]
  · rw [decode_packWrite_layer, decodeLayer_unknown _ _ off]; simp [unknownWrites]

/-- A `WRITE` word at a spare offset of `ROZCTRL` (R61, R114). -/
theorem decode_spare (comp : fieldComp w = 8) (block : 16 ≤ (fieldOff w).toNat ∧ (fieldOff w).toNat < 32)
    (not_mode : fieldOff w ≠ 23) :
    decode w = .wrRozctrlSpare ((fieldOff w).extractLsb' 0 4) (fieldData w) (fieldLanes w) := by
  rw [decode_eq_of_fields opc, comp, decode_packWrite_rozctrl,
    decodeRozctrl_spare _ _ ((offset_high_eq_one_iff _).mpr block) not_mode]

end

/-- Settles O6: the listed operations by `unknownReg`, the words by what they decode to. A spare offset is a stored word. -/
theorem unassignedOffsetsLogged : Obligations.UnassignedOffsetsLogged := by
  refine ⟨fun off data lanes s p listed => exec_unknownWrites listed s,
    fun w s opc unassigned => exec_unknownWrites (decode_unassigned opc unassigned) s, fun w s opc comp spare => ?_⟩
  rw [decode_spare opc comp (by omega) (by bv_omega)]
  exact ⟨_, rfl, rfl⟩

/-! ## Sample words -/

/-- Settles O4: each word is the encoder's word for the operation, which the decoder reads back. -/
theorem sampleWordsDecode : Obligations.SampleWordsDecode := by
  have read_back : ∀ {w : OpWord} {i : Instr}, i.wf = true → encode i = w → decode w = i := fun wf word =>
    word ▸ decodeEncodeAgree _ wf
  and_intros
  all_goals exact read_back rfl rfl

end Sys2Proof.Proofs
end

section
/-!
Runs and frames: any number of steps completes (R174, R204), and only a `RENDER` changes what a `RENDER` leaves behind (R199).
-/
namespace Sys2Proof.Proofs

open Sys2Proof.Config Sys2Proof.Machine Sys2Proof.Safety Sys2Proof.Laws

/-- A step completes and takes one word if there is one (R174, R204; log 2). -/
theorem exists_step (s : State) : ∃ t, step s = .next t ∧ t.stream = s.stream.drop 1 := by
  cases delivered : s.stream with
  | nil => exact ⟨s, step_empty delivered, delivered⟩
  | cons w ws =>
    obtain ⟨f, effect, completes⟩ := exists_effect (decode w)
    exact ⟨_, (step_cons delivered).trans (completes _), effect.ignoresStream.stream _⟩

/-- Settles O51, by induction on the number of steps. -/
theorem runsNeverStop : Obligations.RunsNeverStop := by
  intro n
  induction n with
  | zero => exact fun s => ⟨s, rfl, rfl⟩
  | succ n ih =>
    intro s
    obtain ⟨t, first, taken⟩ := exists_step s
    obtain ⟨u, rest, stream⟩ := ih t
    refine ⟨u, (runSteps_succ first).trans rest, ?_⟩
    rw [stream, taken, List.drop_drop, Nat.add_comm]

/-- What only a `RENDER` changes: the bitmap, the scratch buffers, the palette and the status (R34, R35, R37, R143). -/
def frameOf (s : State) : Plane Rgb × Scratch × PalLatch × Option RenderStatus :=
  (s.out, s.scratch, s.palLatch, s.renderStatus)

/-- Every operation but a `RENDER` keeps the frame (R199). -/
theorem Effect.keeps_frameOf {i : Instr} {f : State → State} (effect : Effect i f) (no_render : ¬ IsRender i) (s : State) :
    frameOf (f s) = frameOf s := by
  cases effect with
  | storage => rw [memWrite_frame]; rfl
  | layerReg | rozctrl | rozctrlSpare | vblank | reserved => rfl
  | geometry | porch => rw [crtcWrite_frame]; rfl
  | brightness => rw [brightWrite_frame]; rfl
  | unknown => rw [unknownReg_frame]; rfl
  | render minx maxx miny maxy => exact absurd ⟨minx, maxx, miny, maxy, rfl⟩ no_render

/-- Settles O56. -/
theorem onlyRenderChangesOut : Obligations.OnlyRenderChangesOut := by
  intro i s t no_render h
  obtain ⟨f, effect, rfl⟩ := effect_of_exec h
  simpa only [frameOf, Prod.mk.injEq] using effect.keeps_frameOf no_render s

end Sys2Proof.Proofs
end

section
/-!
A sprite write between two vertical blanks (R51, R119, R198): it changes no input of a frame, and a frame is a function of its inputs, of
what was drawn before and of the count.
-/
namespace Sys2Proof.Proofs

open Sys2Proof.Config Sys2Proof.Machine Sys2Proof.Safety Sys2Proof.Laws

section
variable {c : Cfg} {s t : State} (inputs : SameInputs s t) (k : Clip)
include inputs

/-- A layer draws alike for the same inputs (R85, R95). -/
theorem drawTarget_of_sameInputs : drawTarget c s k = drawTarget c t k := by
  have plane : ∀ L tag coord sc, drawPlane c s.mem L tag coord k sc = drawPlane c t.mem L tag coord k sc :=
    fun L tag coord sc => by
      have pixel : drawPixel c s.mem L tag coord = drawPixel c t.mem L tag coord := by
        funext sc q
        simp only [drawPixel, samplePlane_of_sameInputs inputs]
      rw [drawPlane, drawPlane, pixel]
  have scroll : scrollCoord c s = scrollCoord c t := by
    funext L x y
    exact scrollCoord_of_sameInputs inputs L x y
  have roz : rozCoord c s = rozCoord c t := by
    funext x y
    exact rozCoord_of_sameInputs inputs x y
  funext sc e
  simp only [drawTarget, drawRoz, drawScroll, plane, scroll, roz]

/-- The scratch buffers of a frame, whole: outside the clip they are those before it (R34, R144). -/
theorem renderScratch_of_sameInputs (scratch : s.scratch = t.scratch) : renderScratch c s k = renderScratch c t k := by
  rw [renderScratch, renderScratch, drawLayers, drawLayers, drawOrder_of_sameInputs inputs, drawTarget_of_sameInputs inputs k,
    drawSprites, drawSprites, drawSprite_of_sameInputs inputs, scratch]

end

/-- The bookkeeping of an unhandled pixel leaves the bitmap alone (R151). -/
theorem noteUnhandled_out (mask : BitVec 8) (tag : BitVec 3) (x y : Nat) (t : MixState) :
    (noteUnhandled mask tag x y t).out = t.out := by
  unfold noteUnhandled
  split <;> rfl

/-- A round of the pixel loop writes one pixel of the bitmap, whatever has been logged and counted (R150, R151). -/
theorem mixPixel_out (c : Cfg) (m : Storage) (p : PalLatch) (sc : Scratch) (t : MixState) (q : Nat × Nat) :
    (mixPixel c m p sc t q).out = emit c q.1 q.2 (composeRgb c p (tileColorAt c sc q.1 q.2) (sprColorAt c sc q.1 q.2)
      (c.priLut (pixelCase c m sc q).1 (pixelCase c m sc q).2)) t.out := by
  refine congrArg (emit c q.1 q.2 _) ?_
  split
  · exact noteUnhandled_out _ _ _ _ t
  · rfl

/-- Two frames with the same inputs over the same bitmap, scratch buffers and count leave the same ones. -/
theorem renderClip_of_sameInputs {c : Cfg} {s t : State} (inputs : SameInputs s t) (k : Clip) (out : s.out = t.out)
    (scratch : s.scratch = t.scratch) (count : s.unhandledCount = t.unhandledCount) :
    (renderClip c k s).out = (renderClip c k t).out ∧ (renderClip c k s).scratch = (renderClip c k t).scratch ∧
      (renderClip c k s).unhandledCount = (renderClip c k t).unhandledCount := by
  have drawn : renderScratch c s k = renderScratch c t k := renderScratch_of_sameInputs inputs k scratch
  have same_cases : pixelCase c s.mem = pixelCase c t.mem := by
    funext sc q
    rw [pixelCase, pixelCase, pixelMask_of_sameInputs inputs]
  refine ⟨?_, drawn, ?_⟩
  · show (mixFrame c s k (renderScratch c s k)).out = (mixFrame c t k (renderScratch c t k)).out
    rw [drawn, mixFrame, mixFrame, latchPalette_of_sameInputs inputs]
    refine List.foldl_rel (r := fun a b : MixState => a.out = b.out) out fun q _ a b same => ?_
    rw [mixPixel_out, mixPixel_out, same_cases, same]
  · rw [renderClip_unhandledCount, renderClip_unhandledCount, unhandledPixels, unhandledPixels, same_cases, drawn, count]

/-- A write to the live sprite buffer changes nothing that a frame reads (R24, R119). -/
theorem sameInputs_sprLiveWrite (c : Cfg) (comp : BitVec 4) (off : Offset) (data : Word) (lanes : Lanes) (s : State) :
    SameInputs (memWrite c .sprLive comp off data lanes s) s := by
  have spaces : ∀ sp, sp ≠ .sprLive → (memWrite c .sprLive comp off data lanes s).mem.get sp = s.mem.get sp :=
    fun sp not_live => memWrite_get_other c not_live comp off data lanes s
  rw [memWrite_frame]
  exact ⟨spaces, fun _ _ => rfl, fun _ => ⟨rfl, rfl⟩, rfl, rfl, rfl, rfl, rfl, rfl⟩

/-- Settles O49: the write keeps the inputs of the frame, the buffers it draws over and the count. -/
theorem spriteWriteUnseenBeforeVblank : Obligations.SpriteWriteUnseenBeforeVblank := by
  intro off data lanes minx maxx miny maxy s u t v wrote rendered_s rendered_u
  obtain rfl := Host.Outcome.next.inj wrote
  obtain rfl := Host.Outcome.next.inj rendered_s
  obtain rfl := Host.Outcome.next.inj rendered_u
  refine renderClip_of_sameInputs (sameInputs_sprLiveWrite cfg 5 off data lanes s) _ ?_ ?_ ?_ <;> rw [memWrite_frame]

end Sys2Proof.Proofs
end

section
/-!
Brightness writes of a held value and of a new one (R159, R201), and the setup sequence that does not depend on the prior state (R196).
-/
namespace Sys2Proof.Proofs

open Sys2Proof.Config Sys2Proof.Machine Sys2Proof.Safety Sys2Proof.Laws

/-! ## The value a register holds -/

/-- Where every enabled lane of the value is that of the register, a merge leaves the register as it is (R44, R201). -/
theorem mergeLanes16_held {old : Half} {data : Word} {lanes : Lanes}
    (held : ∀ k, k < 2 → lanes.getLsbD k = true → data.extractLsb' (8 * k) 8 = old.extractLsb' (8 * k) 8) :
    mergeLanes16 old data (lanes16 lanes) = old := by
  refine BitVec.eq_of_getLsbD_eq fun b hb => ?_
  rw [mergeLanes16_lanes16]
  simp only [BitVec.getLsbD_or, BitVec.getLsbD_and, BitVec.getLsbD_not, BitVec.getLsbD_extractLsb', Nat.zero_add, hb,
    decide_true, Bool.true_and, lanemask_getLsbD lanes b (by omega)]
  cases enabled : lanes.getLsbD (b / 8) with
  | false => simp
  | true =>
    have bit : data.getLsbD b = old.getLsbD b := by
      have lane := congrArg (·.getLsbD (b % 8)) (held (b / 8) (by omega) enabled)
      simpa [Nat.mod_lt, Nat.div_add_mod] using lane
    simpa using bit

/-- Settles O18: with the merged value equal to the old one, `brightWrite_cases` leaves no change. -/
theorem unchangedBrightnessWriteDoesNothing : Obligations.UnchangedBrightnessWriteDoesNothing := by
  intro data lanes s p listed held
  obtain ⟨i, b, r⟩ := p
  have merged : mergeLanes16 (s.brt.get b r) data (lanes16 lanes) = s.brt.get b r := mergeLanes16_held held
  rw [exec_brightnessWrites listed]
  obtain unchanged | ⟨-, written⟩ | ⟨-, changed, -⟩ := brightWrite_cases cfg b r data lanes s
  · rw [unchanged]
  · rw [written, merged, State.setBrt, brt_set_get_self]
  · exact absurd merged changed

/-! ## The setup sequence -/

/-- A brightness write of both lanes (R159). -/
theorem brightWrite_full (c : Cfg) (b : Bank) (r : BrtReg) (v : Half) (s : State) :
    brightWrite c b r (v.setWidth 32) 0x3 s =
      if b = c.brightBank ∧ v ≠ s.brt.get b r then (s.setBrt b r v).setScales (scalesOf (s.brt.set b r v) b)
      else s.setBrt b r v := by
  have both_lanes : lanes16 0x3 = 3 := by decide
  have some_lane : (3 : BitVec 2) ≠ 0 := by decide
  have value : (v.setWidth 32).extractLsb' 0 16 = v := by
    rw [BitVec.extractLsb'_setWidth_of_le (by decide), BitVec.extractLsb'_eq_self]
  rw [brightWrite, both_lanes, if_neg some_lane]
  simp only [mergeLanes16_full, value]
  rfl

/-- A register set to a new value, and the scales to those of its bank (R159, R196). -/
def setBank (b : Bank) (r : BrtReg) (v : Half) (s : State) : State :=
  (s.setBrt b r v).setScales (scalesOf (s.brt.set b r v) b)

/-- The later of two writes to a register stands. -/
theorem brt_set_set (t : BrtRegs) (b : Bank) (r : BrtReg) (v w : Half) : (t.set b r w).set b r v = t.set b r v := by
  cases b <;> cases r <;> rfl

/-- The complement and then the value: the second write changes the register, so that it recomputes the scales whatever the register
and the scales were before (R196). -/
theorem brightWrite_complement_value (c : Cfg) (r : BrtReg) (v : Half) (s : State) :
    brightWrite c c.brightBank r (v.setWidth 32) 0x3 (brightWrite c c.brightBank r ((~~~v).setWidth 32) 0x3 s) =
      setBank c.brightBank r v s := by
  have second : ∀ scales, brightWrite c c.brightBank r (v.setWidth 32) 0x3
      ((s.setBrt c.brightBank r (~~~v)).setScales scales) = setBank c.brightBank r v s := fun scales => by
    have changes : v ≠ ((s.setBrt c.brightBank r (~~~v)).setScales scales).brt.get c.brightBank r := by simp
    rw [brightWrite_full, if_pos ⟨rfl, changes⟩]
    simp only [State.setBrt, State.setScales, setBank, brt_set_set]
  rw [brightWrite_full c c.brightBank r (~~~v) s]
  split
  · exact second _
  · exact second s.scales

/-- The offset of a brightness register (R60). -/
def brightOffset : Bank → BrtReg → Offset
  | .b0, .r0 => 0
  | .b0, .r1 => 1
  | .b1, .r0 => 2
  | .b1, .r1 => 3

/-- Register 1 of a bank follows its register 0 (R60). -/
theorem brightOffset_r1 (b : Bank) : brightOffset b .r0 + 1 = brightOffset b .r1 := by
  cases b <;> rfl

/-- A line that writes a brightness register (R60, R64). -/
theorem exec_assemble_bright (b : Bank) (r : BrtReg) (data : Word) (lanes : Lanes) (s : State) :
    exec (decode (assemble (.wr (.reg .bright (brightOffset b r)) data lanes))) s =
      .next (brightWrite cfg b r data lanes s) := by
  refine (congrArg (exec · s) (decode_packWrite_bright _ data lanes)).trans ?_
  cases b <;> cases r <;> rfl

/-- A run that begins with the two words of the sequence for one register of `BRIGHT_BANK` (R196, R204). -/
theorem runWords_complement_value {s : State} (none_delivered : s.stream = []) (r : BrtReg) (v : Half) (ws : List OpWord) :
    runWords s (assemble (.wr (.reg .bright (brightOffset cfg.brightBank r)) ((~~~v).setWidth 32) 0x3) ::
      assemble (.wr (.reg .bright (brightOffset cfg.brightBank r)) (v.setWidth 32) 0x3) :: ws) =
      runWords (setBank cfg.brightBank r v s) ws := by
  have still_none := ((brightWrite_ignoresStream cfg cfg.brightBank r ((~~~v).setWidth 32) 0x3).stream s).trans none_delivered
  rw [runWords_of_exec none_delivered (exec_assemble_bright cfg.brightBank r _ _ s),
    runWords_of_exec still_none (exec_assemble_bright cfg.brightBank r _ _ _), brightWrite_complement_value]

/-- A run of the whole sequence. -/
theorem runWords_brightSetup {s : State} (none_delivered : s.stream = []) (v0 v1 : Half) :
    runWords s ((brightSetup (brightOffset cfg.brightBank .r0) v0 v1).map assemble) =
      .next (setBank cfg.brightBank .r1 v1 (setBank cfg.brightBank .r0 v0 s)) := by
  have still_none : (setBank cfg.brightBank .r0 v0 s).stream = [] := none_delivered
  simp only [brightSetup, brightOffset_r1, List.map_cons, List.map_nil]
  rw [runWords_complement_value none_delivered, runWords_complement_value still_none, runWords_nil, deliver_nil]

/-- Settles O19: the scales after the last write are those of the whole bank, which the two last values fill. -/
theorem brightnessSetupSequence : Obligations.BrightnessSetupSequence := by
  intro s v0 v1 none_delivered
  have first_offset : (match cfg.brightBank with | .b0 => 0 | .b1 => 2) = brightOffset cfg.brightBank .r0 := by
    cases cfg.brightBank <;> rfl
  refine ⟨_, (congrArg (fun off => runWords s ((brightSetup off v0 v1).map assemble)) first_offset).trans
    (runWords_brightSetup none_delivered v0 v1), rfl, ?_⟩
  generalize written : setBank cfg.brightBank .r1 v1 (setBank cfg.brightBank .r0 v0 s) = t
  have scales : t.scales = scalesOf t.brt cfg.brightBank := by rw [← written]; rfl
  have r0 : t.brt.get cfg.brightBank .r0 = v0 := by simp [← written, setBank, brt_get_set]
  have r1 : t.brt.get cfg.brightBank .r1 = v1 := by simp [← written, setBank]
  refine ⟨r0, r1, ?_⟩
  rw [scales, scalesOf, r0, r1]
  rfl

end Sys2Proof.Proofs
end
